-- ==== Sys2Proof/Word.lean ====
section
/-! DEFINITION. The V128's word types. Every type here is one the manual treats as bits or as a bounded number:
a byte of a frame, a 16-bit pattern or revision, a 24-bit signed value, a 32-bit count. -/

namespace Sys2Proof

/-- One byte of a frame, a lane word, a page or a label. -/
abbrev Byte := BitVec 8

/-- 16 bits: a raw-code pattern, a breakpoint's x, a revision, a CRC (R29, R2, R203). -/
abbrev Half := BitVec 16

/-- 24 bits: a signed corrected value, a breakpoint's y, a limit (R4, R37). -/
abbrev Val24 := BitVec 24

/-- 32 bits: part time, the epoch, a generation, a due time (R111, R23, R138, R4). -/
abbrev Word := BitVec 32

/-- A channel number, 0 to 255 (R1). -/
abbrev Channel := Fin 256

/-- A slot number, 0 to 127 (R1). -/
abbrev SlotIdx := Fin 128

/-- A sample lane, 0 to 3 (R89). -/
abbrev LaneIdx := Fin 4

/-- A lookup context, 0 to 3 (R95). -/
abbrev CtxIdx := Fin 4

end Sys2Proof
end

