-- ==== Sys2Proof/Config.lean ====
section
/-! DEFINITION. What the part fixes (the capacities of 00_scope.md section 1.1, the fixed values of R200, the
silence limit of R143) and the one value the manual leaves open. -/

namespace Sys2Proof.Config

/-- The breakpoint pool holds 2048 cells (R20). -/
def poolCells : Nat := 2048

/-- A breakpoint list holds at most 32 points (R59). -/
def maxPoints : Nat := 32

/-- The edit set holds at most 16 entries (R47). -/
def maxEdits : Nat := 16

/-- A lane's request queue and its result places hold 8 each (R89). -/
def laneDepth : Nat := 8

/-- The repair queue holds up to 8 channels (R179). -/
def repairDepth : Nat := 8

/-- A transfer is silent at the 25th millisecond tick after its issue (R143). -/
def silenceTicks : Nat := 25

/-- The store is written in pages of 64 bytes, and a header is one page (R137). -/
def pageBytes : Nat := 64

/-- An area is 32 KiB, of which the header takes 64 bytes (R137, R140). -/
def maxBody : Nat := 32704

/-- The store holds 64 KiB (R137). -/
def storeBytes : Nat := 65536

/-- What a byte of the store that nothing has written reads as. The manual says only that a newly fitted store may
hold any bytes (R137). DESIGN CHOICE FFh (log entry 2); unsafe: no statement rests on it. -/
def freshStoreByte : Byte := 0xFF#8

/-- FREE VALUE (log entry 3). The value, before saturation, and the CLAMPED flag of a curve that has fewer than two
points. R44 says that every list read at a completion holds at least 2 points and gives no value for a shorter one. -/
opaque shortCurve : List (Int × Int) → Int → Int × Bool

end Sys2Proof.Config
end

