-- ==== Sys2Proof/Syntax.lean ====
section
/-! DEFINITION. The commands and events of the V128: one constructor of `Instr` for each row of
spec/opcode_table.json, with what the sender of the command, or the world outside the device, decides at that event
(log entry 4). -/

namespace Sys2Proof

/-- How a record reads a raw code and its breakpoints' x (R29). -/
inductive Format where
  | u16 | s16
  deriving DecidableEq, Repr

/-- Treatment of raw codes outside the breakpoint range (R33, R34). -/
inductive EndMode where
  | clamp | extend
  deriving DecidableEq, Repr

/-- What reaching the due time does to results (R42). -/
inductive ExpiryAction where
  | warn | block
  deriving DecidableEq, Repr

/-- The kind of an edit entry (R47). -/
inductive EditKind where
  | create | replaceCopy | replaceEmpty | retire
  deriving DecidableEq, Repr

/-- Which record of a channel a read or a probe takes (R27, R105). -/
inductive Which where
  | active | staged
  deriving DecidableEq, Repr

/-- The three frame checks that can fail (R189). -/
inductive FrameError where
  | frameLength | frameCrc | unknownCommand
  deriving DecidableEq, Repr

/-- One breakpoint (R4): a 16-bit x pattern and a signed 24-bit y. -/
structure Point where
  x : Half
  y : Val24
  deriving DecidableEq, Repr

/-- A record's limits (R4). -/
structure Limits where
  low  : Val24
  high : Val24
  deriving DecidableEq, Repr

/-- The content of a slot (R4). -/
structure Content where
  channel  : Channel
  revision : Half
  format   : Format
  endMode  : EndMode
  action   : ExpiryAction
  points   : List Point
  limits   : Option Limits
  due      : Option Word
  label    : List Byte
  crc      : Half
  deriving DecidableEq, Repr

/-- The fields of a Set Fields payload after its channel byte, as received (R57, R204). -/
structure FieldBytes where
  format        : Byte
  endMode       : Byte
  action        : Byte
  limitsPresent : Byte
  low           : Val24
  high          : Val24
  duePresent    : Byte
  due           : Word
  deriving DecidableEq, Repr

/-- The values of a Set Control payload after its selection, as received (R195, R204). -/
structure ControlBytes where
  lease        : Byte
  step         : Byte
  repairEnable : Byte
  laneEnable   : Vector Byte 4
  threshold    : Vector Byte 4
  reasonMask   : Byte
  causeMask    : Byte
  deriving DecidableEq, Repr

/-- The commands and events of the V128. A host command stands for the command event of a frame that passed the frame
checks; its operands are the bytes of its payload. `took` says whether the store took a page write that falls silent
at that event, and `torn` what a page write cut by a reset leaves at its addresses (R148, R153; log entry 5). -/
inductive Instr where
  /-- Power-on reset. -/
  | powerOnReset (torn : List Byte)
  /-- RESET# held low. -/
  | pinReset (torn : List Byte)
  /-- The end of either reset; `csLow` is the level of chip select at that event (R160, R202). -/
  | bootLoad (csLow : Bool)
  /-- The rise of chip select that ends a command write; the whole bytes received after C3h. -/
  | commandWrite (bytes : List Byte)
  /-- A frame that fails a frame check: the code byte received, if one was, and the check. -/
  | frameError (code : Option Byte) (err : FrameError)
  /-- A response read in which the host clocks this many bytes after 3Ch. -/
  | responseRead (clocked : Nat)
  /-- A transaction of these whole bytes whose first is neither C3h nor 3Ch, or of none. -/
  | ignoredTransaction (bytes : List Byte)
  | openEdit (channel : Channel) (kind : Byte)
  | setFields (channel : Channel) (fields : FieldBytes)
  | setLabel (channel : Channel) (label : List Byte)
  | putPoints (channel : Channel) (start : Byte) (points : List Point)
  | trimPoints (channel : Channel) (count : Byte)
  | dropEdit (channel : Channel)
  | abandon
  | commit
  | readEditSet (start : Byte)
  | probe (channel : Channel) (raw : Half) (which : Byte)
  | readMapEntry (channel : Channel)
  | readRecord (channel : Channel) (which : Byte)
  | readPoints (channel : Channel) (which start count : Byte)
  | setTime (seconds : Word)
  | readAttention (start : Channel)
  | clearReasons (channel : Channel) (selection : Byte)
  | clearCauses (selection : Byte)
  | save
  | stopSave
  | reload
  | setControl (selection : Half) (values : ControlBytes)
  | readControl
  | readStatus
  | readIdentity
  | restart
  /-- A lane partner presents a request word with valid asserted. -/
  | requestArrival (lane : LaneIdx) (word : Word)
  /-- A lane partner asserts ready on the outward port. -/
  | resultTake (lane : LaneIdx)
  | laneGrant
  | probeGrant
  /-- The lookup in this context completes; the time is not fixed (R102). -/
  | laneCompletion (ctx : CtxIdx)
  | probeCompletion (ctx : CtxIdx)
  | millisecondTick (took : Bool)
  | secondsTick (took : Bool)
  | leaseLapse (took : Bool)
  | stepExpiry (took : Bool)
  /-- An upset leaves this content in this slot. -/
  | upset (slot : SlotIdx) (content : Content)
  | saveHeaderReadCompletion
  | invalidateWriteCompletion
  | bodyWriteCompletion
  | headerWriteCompletion
  | markerWriteCompletion
  | saveStoreSilence (took : Bool)
  | finishingWriteCompletion
  | finishingWriteSilence (took : Bool)
  | deferredTransferIssue
  | tableClear
  | loadHeaderReadCompletion
  | loadHeaderSilence
  | loadHeadReadCompletion
  | loadTailReadCompletion
  | loadWalkSilence
  | repairStart
  | repairHeaderReadCompletion
  | repairHeadReadCompletion
  | repairTailReadCompletion
  | repairStoreSilence
  | chipSelectRiseAfterReset
  deriving DecidableEq, Repr

end Sys2Proof
end

