-- ==== Sys2Proof/Machine/State.lean ====
section
/-! DEFINITION. The state of the V128: every piece of state its nine blocks hold, the store port and the external
store, and the queue of commands waiting. -/

namespace Sys2Proof.Machine

/-! ### Record store (chapter 1) -/

/-- The state of a slot (R7). -/
inductive SlotState where
  | free | staged | active | suspect | draining
  deriving DecidableEq, Repr

/-- The empty defaults of a record (R6); also what a FREE slot, which has no content, is held as. -/
def blankContent : Content :=
  { channel := 0, revision := 0#16, format := .u16, endMode := .clamp, action := .warn, points := [],
    limits := none, due := none, label := [], crc := 0#16 }

/-- A slot: its runtime state (R7) and its content (R4). -/
structure Slot where
  state   : SlotState
  pins    : Nat
  expired : Bool
  content : Content
  deriving DecidableEq, Repr

/-- A FREE slot: no pin, expired flag clear, no content (R17). -/
def Slot.blank : Slot := { state := .free, pins := 0, expired := false, content := blankContent }

/-- The kind of a map entry, with the slot that has meaning only while it is BOUND (R1). -/
inductive Binding where
  | unassigned
  | bound (slot : SlotIdx)
  | lost
  deriving DecidableEq, Repr

/-- A channel map entry (R1, R2). -/
structure MapEntry where
  binding  : Binding
  revision : Half
  deriving DecidableEq, Repr

/-- UNASSIGNED with revision 0 (R24). -/
def MapEntry.blank : MapEntry := { binding := .unassigned, revision := 0#16 }

/-! ### Edit controller (chapter 3) -/

/-- An entry of the edit set (R47). -/
structure Entry where
  channel : Channel
  kind    : EditKind
  slot    : Option SlotIdx
  deriving DecidableEq, Repr

/-- The lease timer (R63). -/
inductive LeaseTimer where
  | stopped
  | untimed
  | counting (lease : Byte) (k : Nat)
  deriving DecidableEq, Repr

/-! ### Results (chapter 2) -/

/-- The qualities of a value (R37). -/
structure Flags where
  clamped   : Bool
  saturated : Bool
  low       : Bool
  high      : Bool
  expired   : Bool
  deriving DecidableEq, Repr

/-- No flag set. -/
def Flags.clear : Flags := { clamped := false, saturated := false, low := false, high := false, expired := false }

/-- The no-value reason (R37). -/
inductive NoValue where
  | none | unassigned | lost | suspect | blocked
  deriving DecidableEq, Repr

/-- The result of a lookup (R37). -/
structure Result where
  tag      : Byte
  channel  : Channel
  present  : Bool
  value    : Val24
  flags    : Flags
  reason   : NoValue
  revision : Half
  deriving DecidableEq, Repr

/-! ### Lanes and engine (chapter 5) -/

/-- A queued lane request (R89). -/
structure Request where
  channel : Channel
  raw     : Half
  tag     : Byte
  deriving DecidableEq, Repr

/-- The queues and the in-flight count of a lane (R89); its enable and threshold are control settings. -/
structure Lane where
  requests : List Request
  results  : List Result
  inFlight : Nat
  deriving DecidableEq, Repr

/-- Both queues empty, nothing in flight (R89). -/
def Lane.blank : Lane := { requests := [], results := [], inFlight := 0 }

/-- Who asked for a lookup (R95). -/
inductive Requester where
  | lane (n : LaneIdx)
  | host
  deriving DecidableEq, Repr

/-- A busy lookup context (R95). `binding` is the kind of the map snapshot, none for a STAGED probe, which reads the
edit entry in place of the map (R38). -/
structure Lookup where
  requester : Requester
  tag       : Byte
  channel   : Channel
  raw       : Half
  which     : Which
  binding   : Option Binding
  revision  : Half
  pinned    : Option SlotIdx
  drop      : Bool
  deriving DecidableEq, Repr

/-- A probe accepted and not yet granted (R106). -/
structure ProbeRequest where
  channel : Channel
  raw     : Half
  which   : Which
  staged  : Option SlotIdx
  deriving DecidableEq, Repr

/-- Whether a probe is pending, and where it stands (R106, R194). -/
inductive Probe where
  | none
  | waiting (p : ProbeRequest)
  | inFlight
  deriving DecidableEq, Repr

/-! ### Attention unit (chapter 7) -/

/-- A set of reasons in the bit layout of R204: bit 0 EXPIRED, 1 LIMIT, 2 SUSPECT, 3 REPAIRED, 4 LOST. -/
abbrev Reasons := BitVec 5

/-- A set of causes in the bit layout of R204: bit 0 LEASE_LAPSED, 1 SAVE_END, 2 LOAD_END. -/
abbrev Causes := BitVec 3

/-! ### Store controller and store port (chapters 8 to 10) -/

/-- The two image areas of the store (R137). -/
inductive Area where
  | a | b
  deriving DecidableEq, Repr

/-- The fields of a valid image header (R138); the presence map as the channels marked, in ascending order. -/
structure Header where
  generation : Word
  epoch      : Word
  count      : Nat
  bodyLength : Nat
  presence   : List Channel
  deriving DecidableEq, Repr

/-- A transfer on the store port: a read of so many bytes, or a page write of these bytes (R142). -/
inductive TransferKind where
  | read (length : Nat)
  | write (data : List Byte)
  deriving DecidableEq, Repr

/-- The transfer in progress: where, what, whether it is a finishing write (R144), and the millisecond ticks its
silence timer has counted (R143). -/
structure Transfer where
  address   : Nat
  kind      : TransferKind
  finishing : Bool
  ticks     : Nat
  deriving DecidableEq, Repr

/-- The target area and the generation a save will write, once chosen (R148). -/
structure Target where
  area       : Area
  generation : Word
  deriving DecidableEq, Repr

/-- How far a save is: the two header reads and the invalidating write of phase INVALIDATE (`readB` holds what area A
was found to hold), phase BODY, and the two writes of phase HEADER (R148, R149, R151). -/
inductive SaveStage where
  | readA
  | readB (a : Option Header)
  | invalidate (t : Target)
  | body (t : Target)
  | header (t : Target)
  | marker (t : Target)
  deriving DecidableEq, Repr

/-- A save in progress (R145): `last` is the channel of the last record read, `rest` the bytes of the current record
image not yet written, `done` the body bytes completed, `written` the channels whose records the body holds. -/
structure SaveState where
  stage   : SaveStage
  epoch   : Word
  last    : Option Channel
  rest    : List Byte
  done    : Nat
  written : List Channel
  deriving DecidableEq, Repr

/-- A body walk (R159, R183): the chosen area with its header fields, the channel expected next, the channels marked
present after it, and the body offset at which its record image is expected. -/
structure Walk where
  area     : Area
  header   : Header
  expected : Channel
  later    : List Channel
  offset   : Nat
  deriving DecidableEq, Repr

/-- How far a load is: DRAIN, the two header reads of HEADERS, the head read and the tail read of BODY; the tail
stage keeps the 18 head bytes read (R159). -/
inductive LoadStage where
  | drain
  | readA
  | readB (a : Option Header)
  | head (w : Walk)
  | tail (w : Walk) (head : List Byte)
  deriving DecidableEq, Repr

/-- A load in progress (R159). -/
structure LoadState where
  stage     : LoadStage
  installed : Nat
  lost      : Nat
  deriving DecidableEq, Repr

/-- How far a repair is: HEADERS or WALK (R182, R183). -/
inductive RepairStage where
  | readA
  | readB (a : Option Header)
  | head (w : Walk)
  | tail (w : Walk) (head : List Byte)
  deriving DecidableEq, Repr

/-- A repair in progress: the target channel and the SUSPECT slot recorded at its start (R181). -/
structure RepairState where
  target : Channel
  slot   : SlotIdx
  stage  : RepairStage
  deriving DecidableEq, Repr

/-- The store controller's state with the items of the operation in progress (R145). -/
inductive Controller where
  | idle
  | saving (v : SaveState)
  | loading (l : LoadState)
  | repairing (r : RepairState)
  deriving DecidableEq, Repr

/-- The three phases of a save (R145). -/
inductive SavePhase where
  | invalidate | body | header
  deriving DecidableEq, Repr

/-- The last save outcome with what R152 records. -/
inductive SaveOutcome where
  | none
  | done (area : Area) (generation epoch : Word) (count bodyLength : Nat)
  | failedStore (phase : SavePhase) (target : Option Area) (bodyDone : Nat)
  | failedCorrupt (channel : Channel) (target : Area) (bodyDone : Nat)
  | stopped (phase : SavePhase) (target : Option Area) (bodyDone : Nat)
  deriving DecidableEq, Repr

/-- The last load outcome with what R171 records. -/
inductive LoadOutcome where
  | none
  | loaded (area : Area) (generation epoch : Word) (count : Nat)
  | part (area : Area) (generation epoch : Word) (installed lost : Nat)
  | storeFault (area : Area) (generation epoch : Word) (installed lost : Nat)
  | noImage
  deriving DecidableEq, Repr

/-- The last repair outcome with what R186 records. -/
inductive RepairOutcome where
  | none
  | installed (channel : Channel) (area : Area) (revision : Half) (slot : SlotIdx)
  | notFound (channel : Channel) (area : Option Area)
  | superseded (channel : Channel) (area : Area)
  | stale (channel : Channel) (area : Area) (revision : Half)
  | noRoom (channel : Channel) (area : Area)
  | storeFault (channel : Channel) (area : Area)
  deriving DecidableEq, Repr

/-! ### Host port (chapter 11) -/

/-- The status codes (section 11.3). -/
inductive Status where
  | ok | accepted | pending | rejected
  | frameLength | frameCrc | unknownCommand
  | badParam | noSlot | poolFull | setFull | inEdit | notInEdit | noEdit | wrongState | notReady
  | storeBusy | suspectPresent | editOpen | loading
  deriving DecidableEq, Repr

/-- The response buffer (R192). -/
structure Response where
  status  : Status
  echo    : Byte
  counter : Byte
  refused : Bool
  payload : List Byte
  deriving DecidableEq, Repr

/-- The reset state of the response buffer (R192). -/
def Response.reset : Response := { status := .ok, echo := 0#8, counter := 0#8, refused := false, payload := [] }

/-- The frame receiver: able to begin a transaction, or waiting for chip select to be high after a reset (R202). -/
inductive Receiver where
  | idle | awaitHigh
  deriving DecidableEq, Repr

/-- The thirteen control settings (R195). -/
structure Control where
  lease        : Byte
  step         : Byte
  repairEnable : Bool
  laneEnable   : Vector Bool 4
  threshold    : Vector Byte 4
  reasonMask   : Reasons
  causeMask    : Causes
  deriving DecidableEq, Repr

/-- The defaults of R195: lease 30 s, scrub step 20 ms, everything on, thresholds 1, all enabled. -/
def Control.default : Control :=
  { lease := 30#8, step := 20#8, repairEnable := true, laneEnable := Vector.replicate 4 true,
    threshold := Vector.replicate 4 1#8, reasonMask := 0b11111#5, causeMask := 0b111#3 }

/-! ### The machine -/

/-- Why the machine stops. It has no constructor: the manual gives the device no event that stops it; a refused
command is answered with a status code (R191), and an event whose conditions do not hold is not taken (log entry 6). -/
inductive Fault where
  deriving DecidableEq, Repr

/-- Why a command has no outcome. -/
inductive Refusal where
  /-- Raised only by an arm of `exec` whose row has no meaning yet (none is left); safe. -/
  | notModelled (mnemonic : String)
  deriving DecidableEq, Repr

/-- The state of the V128. `sdo` is the bytes shifted out in the last transaction (log entry 11); `store` is the
external EEPROM, in canonical form (see `Sys2Proof.Machine.Mem`); `pending` is the queue of commands waiting. -/
structure State where
  map         : Vector MapEntry 256
  slots       : Vector Slot 128
  freeCells   : Nat
  epoch       : Word
  edits       : List Entry
  lease       : LeaseTimer
  contexts    : Vector (Option Lookup) 4
  pointer     : Fin 5
  hold        : Bool
  probe       : Probe
  lanes       : Vector Lane 4
  partTime    : Word
  msCount     : Nat
  reasons     : Vector Reasons 256
  causes      : Causes
  ctl         : Controller
  port        : Option Transfer
  repairQueue : List Channel
  lastSave    : SaveOutcome
  lastLoad    : LoadOutcome
  lastRepair  : RepairOutcome
  scrubPos    : Fin 128
  scrubCount  : Nat
  mismatches  : Nat
  held        : Bool
  receiver    : Receiver
  response    : Response
  counter     : Byte
  control     : Control
  sdo         : List Byte
  store       : List Host.Cell
  pending     : List Instr
  deriving DecidableEq, Repr

/-- The machine right after power-on reset, still held in reset: the empty table (R24), every block at its reset
value, the controller LOADING with the boot load to come (R145, R160). The hold and `held` are log entry 1, the
store's contents log entry 2, `sdo` log entry 11. -/
def State.reset : State :=
  { map         := Vector.replicate 256 MapEntry.blank
    slots       := Vector.replicate 128 Slot.blank
    freeCells   := Config.poolCells
    epoch       := 0#32
    edits       := []
    lease       := .stopped
    contexts    := Vector.replicate 4 none
    pointer     := 0
    hold        := true
    probe       := .none
    lanes       := Vector.replicate 4 Lane.blank
    partTime    := 0#32
    msCount     := 0
    reasons     := Vector.replicate 256 0#5
    causes      := 0#3
    ctl         := .loading { stage := .drain, installed := 0, lost := 0 }
    port        := none
    repairQueue := []
    lastSave    := .none
    lastLoad    := .none
    lastRepair  := .none
    scrubPos    := 0
    scrubCount  := 0
    mismatches  := 0
    held        := true
    receiver    := .idle
    response    := Response.reset
    counter     := 0#8
    control     := Control.default
    sdo         := []
    store       := []
    pending     := [] }

end Sys2Proof.Machine
end

