-- ==== Sys2Proof/WellFormed.lean ====
section
/-! DEFINITION. Which terms of `Instr` are commands that can be sent. The operand types bound most operands already;
what is left are the relations the manual states between an operand's parts. -/

namespace Sys2Proof

/-- A label's characters are printable, 20h to 7Eh (R4, R58). -/
def printable (b : Byte) : Bool := 0x20#8 ≤ b && b ≤ 0x7E#8

/-- Every field of the content holds one of its stated values (R4, R44); the order of x and of the limits is left
open, as R6 and R19 leave it. The revision copy may be 0 in any slot, the value R6 gives a staged one, although R4 gives
an installed one 1 to 65535: the model's choice, log entry 22. -/
def Content.stated (c : Content) : Bool :=
  c.points.length ≤ Config.maxPoints && c.label.length ≤ 15 && c.label.all printable && c.due != some 0#32

/-- The payload of one frame holds at most 64 bytes (R189), and each row's own condition holds. -/
def Instr.wf : Instr → Bool
  | .powerOnReset torn | .pinReset torn => torn.length ≤ Config.pageBytes
  | .bootLoad _ => true
  | .commandWrite _ => true
  | .frameError none e => e == .frameLength
  | .frameError (some _) _ => true
  | .responseRead _ => true
  | .ignoredTransaction [] => true
  | .ignoredTransaction (b :: _) => b != 0xC3#8 && b != 0x3C#8
  | .openEdit _ _ | .setFields _ _ => true
  | .setLabel _ label => label.length ≤ 62
  | .putPoints _ _ points => points.length ≤ 12
  | .trimPoints _ _ | .dropEdit _ | .abandon | .commit | .readEditSet _ | .probe _ _ _ => true
  | .readMapEntry _ | .readRecord _ _ | .readPoints _ _ _ _ => true
  | .setTime _ | .readAttention _ | .clearReasons _ _ | .clearCauses _ => true
  | .save | .stopSave | .reload | .setControl _ _ | .readControl | .readStatus | .readIdentity | .restart => true
  | .requestArrival _ _ | .resultTake _ | .laneGrant | .probeGrant | .laneCompletion _ | .probeCompletion _ => true
  | .millisecondTick _ | .secondsTick _ | .leaseLapse _ | .stepExpiry _ => true
  | .upset _ content => content.stated
  | .saveHeaderReadCompletion | .invalidateWriteCompletion | .bodyWriteCompletion => true
  | .headerWriteCompletion | .markerWriteCompletion | .saveStoreSilence _ => true
  | .finishingWriteCompletion | .finishingWriteSilence _ | .deferredTransferIssue => true
  | .tableClear | .loadHeaderReadCompletion | .loadHeaderSilence | .loadHeadReadCompletion => true
  | .loadTailReadCompletion | .loadWalkSilence => true
  | .repairStart | .repairHeaderReadCompletion | .repairHeadReadCompletion => true
  | .repairTailReadCompletion | .repairStoreSilence => true
  | .chipSelectRiseAfterReset => true

end Sys2Proof
end

