-- ==== Sys2Proof/Machine/Operands.lean ====
section
/-! DEFINITION. Byte order, the device CRC, the code tables and every layout of chapter 12: parameter codes, record
and header images, lane words, result bytes. -/

namespace Sys2Proof.Machine

/-! ### Byte order: most significant byte first (chapter 12) -/

/-- The low byte of a number, as a layout's 1-byte item. -/
def byteOf (n : Nat) : Byte := BitVec.ofNat 8 n

/-- A 2-byte item. -/
def be16 (v : Half) : List Byte := [v.extractLsb' 8 8, v.extractLsb' 0 8]

/-- A 3-byte item. -/
def be24 (v : Val24) : List Byte := [v.extractLsb' 16 8, v.extractLsb' 8 8, v.extractLsb' 0 8]

/-- A 4-byte item. -/
def be32 (v : Word) : List Byte := [v.extractLsb' 24 8, v.extractLsb' 16 8, v.extractLsb' 8 8, v.extractLsb' 0 8]

/-- The 16-bit item of two bytes. -/
def join16 (b1 b0 : Byte) : Half := b1 ++ b0

/-- The 24-bit item of three bytes. -/
def join24 (b2 b1 b0 : Byte) : Val24 := b2 ++ b1 ++ b0

/-- The 32-bit item of four bytes. -/
def join32 (b3 b2 b1 b0 : Byte) : Word := b3 ++ b2 ++ b1 ++ b0

/-- The channel a byte names; every value is a channel. -/
def channelOfByte (b : Byte) : Channel := b.toFin

/-- The byte of a channel. -/
def byteOfChannel (c : Channel) : Byte := byteOf c.val

/-- The byte at an offset of a layout. -/
def byteAt (bs : List Byte) (i : Nat) : Byte := bs.getD i 0#8

/-- The 2-byte item at an offset. -/
def halfAt (bs : List Byte) (i : Nat) : Half := join16 (byteAt bs i) (byteAt bs (i + 1))

/-- The 3-byte item at an offset. -/
def val24At (bs : List Byte) (i : Nat) : Val24 := join24 (byteAt bs i) (byteAt bs (i + 1)) (byteAt bs (i + 2))

/-- The 4-byte item at an offset. -/
def wordAt (bs : List Byte) (i : Nat) : Word :=
  join32 (byteAt bs i) (byteAt bs (i + 1)) (byteAt bs (i + 2)) (byteAt bs (i + 3))

/-- A Boolean item: 00h or 01h (R204). -/
def flagByte (b : Bool) : Byte := if b then 1#8 else 0#8

/-- An item the state does not have, FFh in every byte of its field (R204). -/
def absent (n : Nat) : List Byte := List.replicate n 0xFF#8

/-! ### The device CRC (R203) -/

/-- One bit of the CRC with polynomial 8005h, most significant bit first. -/
def crcBit (c : Half) : Half := if c.msb then (c <<< 1) ^^^ 0x8005#16 else c <<< 1

/-- One byte, fed most significant bit first. -/
def crcByte (c : Half) (b : Byte) : Half := Nat.repeat crcBit 8 (c ^^^ (b.zeroExtend 16 <<< 8))

/-- The device CRC of a byte string: initial value FFFFh, no reflection, no final inversion (R203). -/
def deviceCrc (bs : List Byte) : Half := bs.foldl crcByte 0xFFFF#16

/-! ### Codes of parameters (R204) -/

/-- CREATE 00h, REPLACE_COPY 01h, REPLACE_EMPTY 02h, RETIRE 03h. -/
def kindCode : EditKind → Byte
  | .create => 0#8 | .replaceCopy => 1#8 | .replaceEmpty => 2#8 | .retire => 3#8

/-- The kind a code names. -/
def kindOfCode (b : Byte) : Option EditKind :=
  if b = 0#8 then some .create else if b = 1#8 then some .replaceCopy
  else if b = 2#8 then some .replaceEmpty else if b = 3#8 then some .retire else none

/-- ACTIVE 00h, STAGED 01h. -/
def whichOfCode (b : Byte) : Option Which :=
  if b = 0#8 then some .active else if b = 1#8 then some .staged else none

/-- U16 00h, S16 01h. -/
def formatCode : Format → Byte
  | .u16 => 0#8 | .s16 => 1#8

/-- The format a code names. -/
def formatOfCode (b : Byte) : Option Format :=
  if b = 0#8 then some .u16 else if b = 1#8 then some .s16 else none

/-- CLAMP 00h, EXTEND 01h. -/
def endModeCode : EndMode → Byte
  | .clamp => 0#8 | .extend => 1#8

/-- The end mode a code names. -/
def endModeOfCode (b : Byte) : Option EndMode :=
  if b = 0#8 then some .clamp else if b = 1#8 then some .extend else none

/-- WARN 00h, BLOCK 01h. -/
def actionCode : ExpiryAction → Byte
  | .warn => 0#8 | .block => 1#8

/-- The expiry action a code names. -/
def actionOfCode (b : Byte) : Option ExpiryAction :=
  if b = 0#8 then some .warn else if b = 1#8 then some .block else none

/-- Presence marks and enables: 00h or 01h. -/
def boolOfCode (b : Byte) : Option Bool :=
  if b = 0#8 then some false else if b = 1#8 then some true else none

/-- The five items that a Set Fields writes, decoded; none where R57 refuses a code or a present due time of 0. -/
structure Fields where
  format  : Format
  endMode : EndMode
  action  : ExpiryAction
  limits  : Option Limits
  due     : Option Word
  deriving DecidableEq, Repr

/-- Decodes the fields of a Set Fields (R57): values sent with an absent mark are not stored. -/
def decodeFields (f : FieldBytes) : Option Fields :=
  match formatOfCode f.format, endModeOfCode f.endMode, actionOfCode f.action,
      boolOfCode f.limitsPresent, boolOfCode f.duePresent with
  | some format, some endMode, some action, some lim, some due =>
    if due && f.due == 0#32 then none
    else some { format, endMode, action,
                limits := if lim then some { low := f.low, high := f.high } else none,
                due := if due then some f.due else none }
  | _, _, _, _, _ => none

/-! ### Codes of response items (R204) -/

/-- The status codes of section 12.2. -/
def statusCode : Status → Byte
  | .ok => 0x00#8 | .accepted => 0x01#8 | .pending => 0x02#8 | .rejected => 0x03#8
  | .frameLength => 0x10#8 | .frameCrc => 0x11#8 | .unknownCommand => 0x12#8
  | .badParam => 0x20#8 | .noSlot => 0x21#8 | .poolFull => 0x22#8 | .setFull => 0x23#8 | .inEdit => 0x24#8
  | .notInEdit => 0x25#8 | .noEdit => 0x26#8 | .wrongState => 0x27#8 | .notReady => 0x28#8
  | .storeBusy => 0x30#8 | .suspectPresent => 0x31#8 | .editOpen => 0x32#8 | .loading => 0x33#8

/-- Map kind: UNASSIGNED 00h, BOUND 01h, LOST 02h. -/
def bindingCode : Binding → Byte
  | .unassigned => 0#8 | .bound _ => 1#8 | .lost => 2#8

/-- A map entry's slot number, 0 when the kind is not BOUND (R1). -/
def bindingSlotByte : Binding → Byte
  | .bound i => byteOf i.val | .unassigned => 0#8 | .lost => 0#8

/-- Slot state: FREE 00h, STAGED 01h, ACTIVE 02h, SUSPECT 03h, DRAINING 04h. -/
def slotStateCode : SlotState → Byte
  | .free => 0#8 | .staged => 1#8 | .active => 2#8 | .suspect => 3#8 | .draining => 4#8

/-- No-value reason (R205): NONE 0, UNASSIGNED 1, LOST 2, SUSPECT 3, BLOCKED 4. -/
def noValueCode : NoValue → Byte
  | .none => 0#8 | .unassigned => 1#8 | .lost => 2#8 | .suspect => 3#8 | .blocked => 4#8

/-- Area: A 00h, B 01h. -/
def areaCode : Area → Byte
  | .a => 0#8 | .b => 1#8

/-- Save phase: INVALIDATE 00h, BODY 01h, HEADER 02h. -/
def savePhaseCode : SavePhase → Byte
  | .invalidate => 0#8 | .body => 1#8 | .header => 2#8

/-- A slot number, or FFh where the state has none (R204). -/
def slotByte : Option SlotIdx → Byte
  | some i => byteOf i.val
  | none => 0xFF#8

/-- An area, or FFh where none is chosen (R204). -/
def areaByte : Option Area → Byte
  | some area => areaCode area
  | none => 0xFF#8

/-- A channel that may be absent: a presence byte and the channel, 00h 00h when it is not given (R204). -/
def channelItem : Option Channel → List Byte
  | some c => [1#8, byteOfChannel c]
  | none => [0#8, 0#8]

/-- A point: x then y (R204). -/
def pointBytes (p : Point) : List Byte := be16 p.x ++ be24 p.y

/-- The flags byte of a result (R205). -/
def flagsByte (f : Flags) : Byte :=
  (if f.clamped then 1#8 else 0#8) ||| (if f.saturated then 2#8 else 0#8) ||| (if f.low then 4#8 else 0#8) |||
    (if f.high then 8#8 else 0#8) ||| (if f.expired then 16#8 else 0#8)

/-- The quality byte of a result (R205). -/
def qualityByte (r : Result) : Byte := (if r.present then 0x80#8 else 0#8) ||| noValueCode r.reason

/-- The nine bytes of a result: the outward lane word and the payload of a probe's response (R205). -/
def resultBytes (r : Result) : List Byte :=
  [r.tag, byteOfChannel r.channel] ++ be16 r.revision ++ be24 r.value ++ [flagsByte r.flags, qualityByte r]

/-- The outward lane word, byte 0 in bits 71 to 64 (R205). -/
def resultWord (r : Result) : BitVec 72 := (resultBytes r).foldl (fun w b => (w <<< 8) ||| b.zeroExtend 72) 0#72

/-- The request a lane word carries (R205): channel in bits 31 to 24, raw code in 23 to 8, tag in 7 to 0. -/
def requestOfWord (w : Word) : Request :=
  { channel := channelOfByte (w.extractLsb' 24 8), raw := w.extractLsb' 8 16, tag := w.extractLsb' 0 8 }

/-- The bytes of a response read after 3Ch: status, echo, counter, flags, length, payload and their CRC (R193). -/
def responseBytes (r : Response) : List Byte :=
  let body := [statusCode r.status, r.echo, r.counter, flagByte r.refused, byteOf r.payload.length] ++ r.payload
  body ++ be16 (deviceCrc body)

/-! ### Record images (R139, R206) -/

/-- The mode byte (R206). -/
def modeByte (c : Content) : Byte :=
  formatCode c.format ||| (endModeCode c.endMode <<< 1) ||| (actionCode c.action <<< 2) |||
    (flagByte c.limits.isSome <<< 3) ||| (flagByte c.due.isSome <<< 4)

/-- Bytes 0 to 15 of a record image: absent limits and an absent due time are zero bytes (R139). -/
def imageHead (c : Content) : List Byte :=
  [byteOfChannel c.channel] ++ be16 c.revision ++ [modeByte c, byteOf c.points.length, byteOf c.label.length] ++
    be24 ((c.limits.map Limits.low).getD 0#24) ++ be24 ((c.limits.map Limits.high).getD 0#24) ++
    be32 (c.due.getD 0#32)

/-- Bytes 18 to the end of a record image: the label's characters, then the points (R206). -/
def imageTail (c : Content) : List Byte := c.label ++ c.points.flatMap pointBytes

/-- The content CRC of a record: the device CRC over every byte of its image but the CRC field (R5, R203). -/
def contentCrc (c : Content) : Half := deviceCrc (imageHead c ++ imageTail c)

/-- The record image a save writes from this content (R139, R149). -/
def recordImage (c : Content) : List Byte := imageHead c ++ be16 (contentCrc c) ++ imageTail c

/-- A content check passes: the recomputed CRC equals the stored one (R5). -/
def contentSound (c : Content) : Bool := contentCrc c == c.crc

/-- The fields of a record's head, its first 18 bytes (R165, R206). -/
structure RecordHead where
  channel  : Channel
  revision : Half
  mode     : Byte
  count    : Nat
  labelLen : Nat
  low      : Val24
  high     : Val24
  due      : Word
  crc      : Half
  deriving DecidableEq, Repr

/-- Decodes a record's head. -/
def decodeHead (bs : List Byte) : RecordHead :=
  { channel := channelOfByte (byteAt bs 0), revision := halfAt bs 1, mode := byteAt bs 3,
    count := (byteAt bs 4).toNat, labelLen := (byteAt bs 5).toNat, low := val24At bs 6, high := val24At bs 9,
    due := wordAt bs 12, crc := halfAt bs 16 }

/-- The bytes of a record image after its head: L + 5n (R165). -/
def RecordHead.tailLength (h : RecordHead) : Nat := h.labelLen + 5 * h.count

/-- The bytes of a whole record image: 18 + L + 5n (R139). -/
def RecordHead.size (h : RecordHead) : Nat := 18 + h.tailLength

/-- The points of a byte string, five bytes each. -/
def pointsOfBytes : List Byte → List Point
  | x1 :: x0 :: y2 :: y1 :: y0 :: rest => { x := join16 x1 x0, y := join24 y2 y1 y0 } :: pointsOfBytes rest
  | _ => []

/-- The record CRC of an image as read: over head bytes 0 to 15 and the tail (R166, R203). -/
def imageCrc (head tail : List Byte) : Half := deviceCrc (head.take 16 ++ tail)

/-- The content that a record image carries, the record CRC as its content CRC (R16, R168). -/
def decodeRecord (head tail : List Byte) : Content :=
  let h := decodeHead head
  { channel := h.channel, revision := h.revision,
    format := if h.mode.getLsbD 0 then .s16 else .u16,
    endMode := if h.mode.getLsbD 1 then .extend else .clamp,
    action := if h.mode.getLsbD 2 then .block else .warn,
    points := (pointsOfBytes (tail.drop h.labelLen)).take h.count,
    limits := if h.mode.getLsbD 3 then some { low := h.low, high := h.high } else none,
    due := if h.mode.getLsbD 4 then some h.due else none,
    label := tail.take h.labelLen, crc := h.crc }

/-! ### Reading a pattern and ordering a list (R29, R72) -/

/-- A 16-bit pattern read under a format (R29). -/
def readX (f : Format) (p : Half) : Int :=
  match f with
  | .u16 => p.toNat
  | .s16 => p.toInt

/-- Each value of the list is below the next. -/
def increasing : List Int → Bool
  | a :: b :: rest => decide (a < b) && increasing (b :: rest)
  | _ => true

/-- Read under the record's format, the x values are strictly increasing in list order (R72, R105, R167). -/
def contentOrdered (c : Content) : Bool := increasing (c.points.map fun p => readX c.format p.x)

/-- The low limit is below the high limit, or there are none (R73). -/
def contentLimitsOk (c : Content) : Bool :=
  match c.limits with
  | some l => decide (l.low.toInt < l.high.toInt)
  | none => true

/-- The field checks of R167 on a record whose CRC passed. -/
def fieldsValid (head tail : List Byte) : Bool :=
  let h := decodeHead head
  let c := decodeRecord head tail
  decide (2 ≤ h.count) && decide (h.count ≤ 32) && decide (h.labelLen ≤ 15) && c.label.all printable &&
    h.mode.extractLsb' 5 3 == 0#3 && contentOrdered c && contentLimitsOk c && c.due != some 0#32 &&
    (c.limits.isSome || (h.low == 0#24 && h.high == 0#24)) && (c.due.isSome || h.due == 0#32)

/-! ### Image headers (R138, R140, R206) -/

/-- The marker "VRGI". -/
def markerBytes : List Byte := [0x56#8, 0x52#8, 0x47#8, 0x49#8]

/-- The channels a 32-byte presence map marks, ascending: channel c is bit 7 - (c mod 8) of byte c div 8 (R206). -/
def presenceOfBytes (bs : List Byte) : List Channel :=
  (List.finRange 256).filter fun c => (byteAt bs (c.val / 8)).getLsbD (7 - c.val % 8)

/-- The presence map byte `k` that marks these channels (R206). -/
def presenceByte (cs : List Channel) (k : Nat) : Byte :=
  (cs.filter fun c => c.val / 8 == k).foldl (fun b c => b ||| (1#8 <<< (7 - c.val % 8))) 0#8

/-- The 32 bytes of a presence map. -/
def presenceBytes (cs : List Channel) : List Byte := (List.range 32).map (presenceByte cs)

/-- The header CRC: over bytes 0 to 61 with the marker taken as "VRGI" (R203). -/
def headerCrc (bs : List Byte) : Half := deviceCrc (markerBytes ++ (bs.drop 4).take 58)

/-- The header bytes 4 to 61: generation, epoch, record count, body length, presence map, zero bytes (R206). -/
def headerFields (generation epoch : Word) (bodyLength : Nat) (written : List Channel) : List Byte :=
  be32 generation ++ be32 epoch ++ be16 (BitVec.ofNat 16 written.length) ++ be32 (BitVec.ofNat 32 bodyLength) ++
    presenceBytes written ++ List.replicate 12 0#8

/-- The 64 bytes of the first HEADER write: the marker four zero bytes, the CRC as if it read "VRGI" (R151). -/
def headerImage (generation epoch : Word) (bodyLength : Nat) (written : List Channel) : List Byte :=
  let fields := headerFields generation epoch bodyLength written
  List.replicate 4 0#8 ++ fields ++ be16 (deviceCrc (markerBytes ++ fields))

/-- The header fields of an image, or none where the area holds no valid image: the five conditions of R140. -/
def parseHeader (bs : List Byte) : Option Header :=
  let h : Header :=
    { generation := wordAt bs 4, epoch := wordAt bs 8, count := (halfAt bs 12).toNat,
      bodyLength := (wordAt bs 14).toNat, presence := presenceOfBytes ((bs.drop 18).take 32) }
  if bs.take 4 == markerBytes && headerCrc bs == halfAt bs 62 && decide (h.count ≤ 128) &&
      h.count == h.presence.length && decide (h.bodyLength ≤ Config.maxBody) then some h else none

/-- Serial comparison: `x` is later than `y` when x - y modulo 2^32 lies in 1 to 2^31 - 1 (spec/00 section 5). -/
def later (x y : Word) : Bool := decide (1 ≤ (x - y).toNat) && decide ((x - y).toNat ≤ 2147483647)

/-- The newest valid image among what the two areas hold (R141). -/
def newest (a b : Option Header) : Option (Area × Header) :=
  match a, b with
  | none, none => none
  | some ha, none => some (.a, ha)
  | none, some hb => some (.b, hb)
  | some ha, some hb => if later hb.generation ha.generation then some (.b, hb) else some (.a, ha)

/-- The first address of an area (R137). -/
def Area.base : Area → Nat
  | .a => 0
  | .b => 32768

/-- The other area. -/
def Area.other : Area → Area
  | .a => .b
  | .b => .a

/-- The area an address lies in (R137). -/
def areaOfAddress (address : Nat) : Area := if address < 32768 then .a else .b

/-- The target and the generation a save writes (R148): the area that does not hold the newest image, or A; the
newest generation plus 1, or 1. -/
def saveTarget (a b : Option Header) : Target :=
  match newest a b with
  | some (area, h) => { area := area.other, generation := h.generation + 1#32 }
  | none => { area := .a, generation := 1#32 }

/-! ### The store port's bus (R142) -/

/-- One item of a bus sequence: what the port puts on the bus, or a byte it takes and acknowledges or not. -/
inductive BusItem where
  | start | repeatedStart | stop
  | byteOut (b : Byte)
  | byteIn (acknowledged : Bool)
  deriving DecidableEq, Repr

/-- The store's target address 50h with the write bit. -/
def busWriteAddress : Byte := 0xA0#8
/-- The store's target address 50h with the read bit. -/
def busReadAddress : Byte := 0xA1#8

/-- The bus sequence of a transfer (R142). -/
def Transfer.busSequence (t : Transfer) : List BusItem :=
  let address := (be16 (BitVec.ofNat 16 t.address)).map BusItem.byteOut
  match t.kind with
  | .write data => [.start, .byteOut busWriteAddress] ++ address ++ data.map .byteOut ++ [.stop]
  | .read n => [.start, .byteOut busWriteAddress] ++ address ++ [.repeatedStart, .byteOut busReadAddress] ++
      (List.range n).map (fun i => .byteIn (decide (i + 1 < n))) ++ [.stop]

/-- The bus sequence of an acknowledge poll (R142). -/
def pollSequence : List BusItem := [.start, .byteOut busWriteAddress, .stop]

end Sys2Proof.Machine
end

