-- ==== Sys2Proof/Decode.lean ====
section
/-! DEFINITION. Reading a command: the words of the opcode table (no row has bits), and the command frames of the host
port (R189, R204), with an encoder of frames after the decoder. -/

namespace Sys2Proof

open Machine

/-- The command that a word of the opcode table spells. No row of the table gives any bits, so no word spells one. -/
def decodeTableWord (_nbits _w : Nat) : Option Instr := none

/-! ### Command codes (section 12.2) -/

/-- The commands of the host port. -/
inductive CommandCode where
  | openEdit | setFields | setLabel | putPoints | trimPoints | dropEdit | commit | abandon | readEditSet
  | probe | readMapEntry | readRecord | readPoints | setTime | readAttention | clearReasons | clearCauses
  | save | stopSave | reload | setControl | readControl | readStatus | readIdentity | restart
  deriving DecidableEq, Repr

/-- The code byte of a command (section 12.2). -/
def codeByte : CommandCode → Byte
  | .openEdit => 0x10#8 | .setFields => 0x11#8 | .setLabel => 0x12#8 | .putPoints => 0x13#8
  | .trimPoints => 0x14#8 | .dropEdit => 0x15#8 | .commit => 0x16#8 | .abandon => 0x17#8
  | .readEditSet => 0x18#8 | .probe => 0x20#8 | .readMapEntry => 0x30#8 | .readRecord => 0x31#8
  | .readPoints => 0x32#8 | .setTime => 0x40#8 | .readAttention => 0x50#8 | .clearReasons => 0x51#8
  | .clearCauses => 0x52#8 | .save => 0x60#8 | .stopSave => 0x61#8 | .reload => 0x62#8
  | .setControl => 0x70#8 | .readControl => 0x71#8 | .readStatus => 0x72#8 | .readIdentity => 0x73#8
  | .restart => 0x7F#8

/-- Every command of the port. -/
def allCodes : List CommandCode :=
  [.openEdit, .setFields, .setLabel, .putPoints, .trimPoints, .dropEdit, .commit, .abandon, .readEditSet, .probe,
   .readMapEntry, .readRecord, .readPoints, .setTime, .readAttention, .clearReasons, .clearCauses, .save, .stopSave,
   .reload, .setControl, .readControl, .readStatus, .readIdentity, .restart]

/-- The command a code byte names (R189 check 3). -/
def codeOfByte (b : Byte) : Option CommandCode := allCodes.find? fun k => codeByte k == b

/-- The commands whose rule makes LOADING its first check (R50, R69, R105, R191). -/
def loadingFirst : CommandCode → Bool
  | .openEdit | .setFields | .setLabel | .putPoints | .trimPoints | .dropEdit | .commit | .abandon | .probe => true
  | .readEditSet | .readMapEntry | .readRecord | .readPoints | .setTime | .readAttention | .clearReasons
  | .clearCauses | .save | .stopSave | .reload | .setControl | .readControl | .readStatus | .readIdentity
  | .restart => false

/-! ### Frames (R189) -/

/-- What the frame checks find: a frame error with the code byte received, or a command with its payload. -/
inductive FrameCheck where
  | bad (code : Option Byte) (err : FrameError)
  | good (code : CommandCode) (payload : List Byte)
  deriving DecidableEq, Repr

/-- The frame checks on the bytes received after C3h, in the order of R189. -/
def checkFrame : List Byte → FrameCheck
  | [] => .bad none .frameLength
  | [c] => .bad (some c) .frameLength
  | c :: len :: rest =>
    if 64 < len.toNat ∨ rest.length ≠ len.toNat + 2 then .bad (some c) .frameLength
    else if deviceCrc (c :: len :: rest.take len.toNat) ≠ halfAt (rest.drop len.toNat) 0 then .bad (some c) .frameCrc
    else match codeOfByte c with
      | none => .bad (some c) .unknownCommand
      | some k => .good k (rest.take len.toNat)

/-- The command that a taken frame carries, or none where the payload has a length its layout does not allow (R191,
R204). -/
def decodePayload (k : CommandCode) (p : List Byte) : Option Instr :=
  match k, p with
  | .openEdit, [c, kind] => some (.openEdit (channelOfByte c) kind)
  | .setFields, [c, f, e, a, lp, l2, l1, l0, h2, h1, h0, dp, d3, d2, d1, d0] =>
    some (.setFields (channelOfByte c)
      { format := f, endMode := e, action := a, limitsPresent := lp, low := join24 l2 l1 l0, high := join24 h2 h1 h0,
        duePresent := dp, due := join32 d3 d2 d1 d0 })
  | .setLabel, c :: n :: label => if label.length = n.toNat then some (.setLabel (channelOfByte c) label) else none
  | .putPoints, c :: start :: n :: points =>
    if points.length = 5 * n.toNat then some (.putPoints (channelOfByte c) start (pointsOfBytes points)) else none
  | .trimPoints, [c, n] => some (.trimPoints (channelOfByte c) n)
  | .dropEdit, [c] => some (.dropEdit (channelOfByte c))
  | .commit, [] => some .commit
  | .abandon, [] => some .abandon
  | .readEditSet, [start] => some (.readEditSet start)
  | .probe, [c, r1, r0, w] => some (.probe (channelOfByte c) (join16 r1 r0) w)
  | .readMapEntry, [c] => some (.readMapEntry (channelOfByte c))
  | .readRecord, [c, w] => some (.readRecord (channelOfByte c) w)
  | .readPoints, [c, w, start, n] => some (.readPoints (channelOfByte c) w start n)
  | .setTime, [t3, t2, t1, t0] => some (.setTime (join32 t3 t2 t1 t0))
  | .readAttention, [c] => some (.readAttention (channelOfByte c))
  | .clearReasons, [c, sel] => some (.clearReasons (channelOfByte c) sel)
  | .clearCauses, [sel] => some (.clearCauses sel)
  | .save, [] => some .save
  | .stopSave, [] => some .stopSave
  | .reload, [] => some .reload
  | .setControl, [s1, s0, lease, step, rep, e0, e1, e2, e3, t0, t1, t2, t3, rm, cm] =>
    some (.setControl (join16 s1 s0)
      { lease, step, repairEnable := rep, laneEnable := #v[e0, e1, e2, e3], threshold := #v[t0, t1, t2, t3],
        reasonMask := rm, causeMask := cm })
  | .readControl, [] => some .readControl
  | .readStatus, [] => some .readStatus
  | .readIdentity, [] => some .readIdentity
  | .restart, [] => some .restart
  | _, _ => none

/-! ### The encoder -/

/-- The code and the payload of the frame that carries a command; none for a row that is not a host command. -/
def encodePayload : Instr → Option (CommandCode × List Byte)
  | .openEdit c kind => some (.openEdit, [byteOfChannel c, kind])
  | .setFields c f =>
    some (.setFields, [byteOfChannel c, f.format, f.endMode, f.action, f.limitsPresent] ++ be24 f.low ++ be24 f.high ++
      [f.duePresent] ++ be32 f.due)
  | .setLabel c label => some (.setLabel, [byteOfChannel c, byteOf label.length] ++ label)
  | .putPoints c start points =>
    some (.putPoints, [byteOfChannel c, start, byteOf points.length] ++ points.flatMap pointBytes)
  | .trimPoints c n => some (.trimPoints, [byteOfChannel c, n])
  | .dropEdit c => some (.dropEdit, [byteOfChannel c])
  | .commit => some (.commit, [])
  | .abandon => some (.abandon, [])
  | .readEditSet start => some (.readEditSet, [start])
  | .probe c raw w => some (.probe, [byteOfChannel c] ++ be16 raw ++ [w])
  | .readMapEntry c => some (.readMapEntry, [byteOfChannel c])
  | .readRecord c w => some (.readRecord, [byteOfChannel c, w])
  | .readPoints c w start n => some (.readPoints, [byteOfChannel c, w, start, n])
  | .setTime t => some (.setTime, be32 t)
  | .readAttention c => some (.readAttention, [byteOfChannel c])
  | .clearReasons c sel => some (.clearReasons, [byteOfChannel c, sel])
  | .clearCauses sel => some (.clearCauses, [sel])
  | .save => some (.save, [])
  | .stopSave => some (.stopSave, [])
  | .reload => some (.reload, [])
  | .setControl sel v =>
    some (.setControl, be16 sel ++ [v.lease, v.step, v.repairEnable] ++ v.laneEnable.toList ++ v.threshold.toList ++
      [v.reasonMask, v.causeMask])
  | .readControl => some (.readControl, [])
  | .readStatus => some (.readStatus, [])
  | .readIdentity => some (.readIdentity, [])
  | .restart => some (.restart, [])
  | .powerOnReset _ | .pinReset _ | .bootLoad _ | .commandWrite _ | .frameError _ _ | .responseRead _
  | .ignoredTransaction _ | .requestArrival _ _ | .resultTake _ | .laneGrant | .probeGrant | .laneCompletion _
  | .probeCompletion _ | .millisecondTick _ | .secondsTick _ | .leaseLapse _ | .stepExpiry _ | .upset _ _
  | .saveHeaderReadCompletion | .invalidateWriteCompletion | .bodyWriteCompletion | .headerWriteCompletion
  | .markerWriteCompletion | .saveStoreSilence _ | .finishingWriteCompletion | .finishingWriteSilence _
  | .deferredTransferIssue | .tableClear | .loadHeaderReadCompletion | .loadHeaderSilence | .loadHeadReadCompletion
  | .loadTailReadCompletion | .loadWalkSilence | .repairStart | .repairHeaderReadCompletion
  | .repairHeadReadCompletion | .repairTailReadCompletion | .repairStoreSilence | .chipSelectRiseAfterReset => none

/-- A command frame: code, length, payload and their CRC, the bytes after C3h (R189, R203). -/
def frameOf (k : CommandCode) (payload : List Byte) : List Byte :=
  let body := codeByte k :: byteOf payload.length :: payload
  body ++ be16 (deviceCrc body)

/-- The frame that carries a host command. -/
def encodeFrame (i : Instr) : Option (List Byte) := (encodePayload i).map fun (k, p) => frameOf k p

end Sys2Proof
end

