-- ==== Sys2Proof/Machine/Flags.lean ====
section
/-! DEFINITION. Correction arithmetic and result quality (chapter 2): the curve, the end modes, saturation, limits,
and what a completion decides. -/

namespace Sys2Proof.Machine

/-- A point with its x read under the format and its y as a signed value (R29). -/
abbrev IntPoint := Int × Int

/-- The list of a content as the engine reads it (R29). -/
def curvePoints (c : Content) : List IntPoint := c.points.map fun p => (readX c.format p.x, p.y.toInt)

/-- The formula of R32 on a segment of non-zero width: the quotient truncated toward zero. -/
def interpolate (x : Int) (p q : IntPoint) : Int := p.2 + Int.tdiv ((x - p.1) * (q.2 - p.2)) (q.1 - p.1)

/-- The segment of R31: the lowest i with x_i ≤ x ≤ x_(i+1). Inside the range one exists, so the last segment is
taken without a test. -/
def segment (x : Int) : IntPoint → IntPoint → List IntPoint → IntPoint × IntPoint
  | p, q, [] => (p, q)
  | p, q, r :: rest => if p.1 ≤ x ∧ x ≤ q.1 then (p, q) else segment x q r rest

/-- The value inside the range (R32): on a segment of zero width, the value is y_i. -/
def insideValue (x : Int) (p q : IntPoint) : Int := if p.1 = q.1 then p.2 else interpolate x p q

/-- The last segment of a list of at least two points (R34). -/
def lastSegment : IntPoint → IntPoint → List IntPoint → IntPoint × IntPoint
  | p, q, [] => (p, q)
  | _, q, r :: rest => lastSegment q r rest

/-- The value before saturation and the CLAMPED flag (R30 to R34). The end segment of zero width gives the end point
itself with CLAMPED (R34). A list of fewer than two points is the free value of log entry 3. -/
def curve (mode : EndMode) (points : List IntPoint) (x : Int) : Int × Bool :=
  match points with
  | p :: q :: rest =>
    let (u, v) := lastSegment p q rest
    if x < p.1 then
      match mode with
      | .clamp => (p.2, true)
      | .extend => if p.1 = q.1 then (p.2, true) else (interpolate x p q, false)
    else if v.1 < x then
      match mode with
      | .clamp => (v.2, true)
      | .extend => if u.1 = v.1 then (v.2, true) else (interpolate x u v, false)
    else
      let (i, j) := segment x p q rest
      (insideValue x i j, false)
  | _ => Config.shortCurve points x

/-- The bounds of a corrected value (R35). -/
def valueMin : Int := -8388608
/-- The bounds of a corrected value (R35). -/
def valueMax : Int := 8388607

/-- Saturation to the corrected-value range (R35). -/
def saturate (v : Int) : Int := if v > valueMax then valueMax else if v < valueMin then valueMin else v

/-- LOW: a limit is present and the value is below the low one (R36). -/
def isLow (limits : Option Limits) (v : Int) : Bool :=
  match limits with
  | some l => decide (v < l.low.toInt)
  | none => false

/-- HIGH: a limit is present and the value is above the high one (R36). -/
def isHigh (limits : Option Limits) (v : Int) : Bool :=
  match limits with
  | some l => decide (v > l.high.toInt)
  | none => false

/-- The corrected value of a raw code under a content, and its flags but EXPIRED (R29 to R36). -/
def correct (c : Content) (raw : Half) : Val24 × Flags :=
  let (v, clamped) := curve c.endMode (curvePoints c) (readX c.format raw)
  let w := saturate v
  (BitVec.ofInt 24 w,
   { clamped, saturated := decide (w ≠ v), low := isLow c.limits w, high := isHigh c.limits w, expired := false })

/-- What identifies a result: what the grant fixed (R38). -/
structure ResultTag where
  tag      : Byte
  channel  : Channel
  revision : Half
  deriving DecidableEq, Repr

/-- A result without a value: value 0, with its reason and, for BLOCKED, the EXPIRED flag (R37). -/
def ResultTag.noValue (t : ResultTag) (reason : NoValue) (flags : Flags) : Result :=
  { tag := t.tag, channel := t.channel, present := false, value := 0#24, flags, reason, revision := t.revision }

/-- A result with the corrected value of the slot's content; EXPIRED beside it when the flag is set (R42). -/
def ResultTag.withValue (t : ResultTag) (sl : Slot) (raw : Half) : Result :=
  let (v, f) := correct sl.content raw
  { tag := t.tag, channel := t.channel, present := true, value := v, flags := { f with expired := sl.expired },
    reason := .none, revision := t.revision }

/-- What a completion decides from the pinned slot, the first case that applies (R40). -/
def slotResult (t : ResultTag) (sl : Slot) (raw : Half) : Result :=
  if sl.state = .suspect then t.noValue .suspect Flags.clear
  else if sl.expired = true ∧ sl.content.action = .block then t.noValue .blocked { Flags.clear with expired := true }
  else t.withValue sl raw

/-- The no-value reason of a lookup granted without a slot (R38). -/
def unboundReason : Option Binding → NoValue
  | some .lost => .lost
  | _ => .unassigned

/-- The result of a lookup (R101 step 1): from the pinned slot as it stands, or fixed at the grant (R38). -/
def lookupResult (l : Lookup) (slotOf : SlotIdx → Slot) : Result :=
  let t : ResultTag := { tag := l.tag, channel := l.channel, revision := l.revision }
  match l.pinned with
  | some i => slotResult t (slotOf i) l.raw
  | none => t.noValue (unboundReason l.binding) Flags.clear

/-- The result carries LOW or HIGH (R45). -/
def Result.limitFlagged (r : Result) : Bool := r.flags.low || r.flags.high

end Sys2Proof.Machine
end

