-- ==== Sys2Proof/Machine/Ops.lean ====
section
/-! DEFINITION. The named operations over the state that more than one command uses: the external store, the record
store (slots, map, pool), attention, content checks, the expiry sweep, the store port. -/

namespace Sys2Proof.Machine

/-! ### The external store (R137, R142)

A list of (address, byte) cells, addresses strictly rising, no cell equal to what an unlisted address reads as. -/

/-- The store's contents. -/
abbrev Mem := List Host.Cell

/-- The canonical form: addresses strictly rising and inside the store, no cell of the fresh value. -/
def Mem.wf : Mem → Bool
  | [] => true
  | [c] => decide (c.1 < Config.storeBytes) && c.2 != Config.freshStoreByte
  | c :: d :: rest => decide (c.1 < d.1) && c.2 != Config.freshStoreByte && Mem.wf (d :: rest)

/-- The byte at an address. -/
def Mem.read (m : Mem) (address : Nat) : Byte :=
  match m with
  | [] => Config.freshStoreByte
  | c :: rest => if c.1 = address then c.2 else Mem.read rest address

/-- A cell in front, unless it holds the fresh value. -/
def Mem.consCell (address : Nat) (b : Byte) (m : Mem) : Mem :=
  if b = Config.freshStoreByte then m else (address, b) :: m

/-- Writes one byte, keeping the canonical form. -/
def Mem.write (m : Mem) (address : Nat) (b : Byte) : Mem :=
  match m with
  | [] => Mem.consCell address b []
  | c :: rest =>
    if address < c.1 then Mem.consCell address b (c :: rest)
    else if address = c.1 then Mem.consCell address b rest
    else c :: Mem.write rest address b

/-- The bytes a read hands over, in address order (R142). An address past the top is taken modulo 64 KiB
(DESIGN CHOICE, log entry 19; no effect depends on it). -/
def Mem.readBytes (m : Mem) (address length : Nat) : List Byte :=
  (List.range length).map fun i => Mem.read m ((address + i) % Config.storeBytes)

/-- The store after a page write (R142). -/
def Mem.writeBytes (m : Mem) (address : Nat) : List Byte → Mem
  | [] => m
  | b :: rest => Mem.writeBytes (Mem.write m (address % Config.storeBytes) b) (address + 1) rest

/-- What an area holds: its valid image's header, or none (R140). -/
def Mem.image (m : Mem) (area : Area) : Option Header := parseHeader (Mem.readBytes m area.base 64)

/-- The store after a page write that did not complete and left `left` at its addresses: R148, R151 and R153 allow the
old contents, or contents that leave the area without a valid image (log entry 5). -/
def Mem.cutWrite (m : Mem) (address : Nat) (left : List Byte) : Mem :=
  let m' := Mem.writeBytes m address left
  if (Mem.image m' (areaOfAddress address)).isSome then m else m'

/-! ### Reading and updating the tables -/

/-- A vector from a function of the index. -/
def tabulate {α : Type} {n : Nat} (f : Fin n → α) : Vector α n := ⟨⟨(List.finRange n).map f⟩, by simp⟩

/-- A slot. -/
def State.slot (s : State) (i : SlotIdx) : Slot := s.slots.get i

/-- A slot replaced. -/
def State.setSlot (s : State) (i : SlotIdx) (v : Slot) : State := { s with slots := s.slots.set i.val v i.isLt }

/-- A map entry. -/
def State.entry (s : State) (c : Channel) : MapEntry := s.map.get c

/-- A map entry replaced. -/
def State.setEntry (s : State) (c : Channel) (e : MapEntry) : State := { s with map := s.map.set c.val e c.isLt }

/-- The reasons a channel holds (R125). -/
def State.reasonsOf (s : State) (c : Channel) : Reasons := s.reasons.get c

/-- A channel's reasons replaced. -/
def State.setReasons (s : State) (c : Channel) (r : Reasons) : State :=
  { s with reasons := s.reasons.set c.val r c.isLt }

/-- A lane. -/
def State.lane (s : State) (n : LaneIdx) : Lane := s.lanes.get n

/-- A lane replaced. -/
def State.setLane (s : State) (n : LaneIdx) (l : Lane) : State := { s with lanes := s.lanes.set n.val l n.isLt }

/-- A lookup context. -/
def State.context (s : State) (k : CtxIdx) : Option Lookup := s.contexts.get k

/-- A lookup context replaced. -/
def State.setContext (s : State) (k : CtxIdx) (l : Option Lookup) : State :=
  { s with contexts := s.contexts.set k.val l k.isLt }

/-- A load is in progress (R159). -/
def State.isLoading (s : State) : Bool :=
  match s.ctl with
  | .loading _ => true
  | _ => false

/-- A save is in progress. -/
def State.isSaving (s : State) : Bool :=
  match s.ctl with
  | .saving _ => true
  | _ => false

/-- The store controller is IDLE. -/
def State.isIdle (s : State) : Bool := s.ctl == .idle

/-! ### Attention (chapter 7) -/

/-- The bit of EXPIRED (R204). -/
def expiredBit : Reasons := 1#5
/-- The bit of LIMIT (R204). -/
def limitBit : Reasons := 2#5
/-- The bit of SUSPECT (R204). -/
def suspectBit : Reasons := 4#5
/-- The bit of REPAIRED (R204). -/
def repairedBit : Reasons := 8#5
/-- The bit of LOST (R204). -/
def lostBit : Reasons := 16#5
/-- The bit of LEASE_LAPSED (R204). -/
def leaseLapsedBit : Causes := 1#3
/-- The bit of SAVE_END (R204). -/
def saveEndBit : Causes := 2#3
/-- The bit of LOAD_END (R204). -/
def loadEndBit : Causes := 4#3

/-- A raise: the reason is added to the channel's set (R126). -/
def State.raise (s : State) (c : Channel) (r : Reasons) : State := s.setReasons c (s.reasonsOf c ||| r)

/-- A cause is latched (R131). -/
def State.latch (s : State) (c : Causes) : State := { s with causes := s.causes ||| c }

/-- The channel holds at least one reason (R125). -/
def State.member (s : State) (c : Channel) : Bool := s.reasonsOf c != 0#5

/-- The members of the attention set, ascending. -/
def State.members (s : State) : List Channel := (List.finRange 256).filter s.member

/-- The level of ATTN (R133). -/
def State.attn (s : State) : Bool :=
  (List.finRange 256).any (fun c => s.reasonsOf c &&& s.control.reasonMask != 0#5) ||
    (s.causes &&& s.control.causeMask != 0#3)

/-! ### Slots, pins and the pool (chapter 1) -/

/-- The number of FREE slots (R8). -/
def State.freeSlots (s : State) : Nat := (List.finRange 128).countP fun i => (s.slot i).state == .free

/-- The lowest-numbered FREE slot (R8). -/
def State.lowestFree (s : State) : Option SlotIdx := (List.finRange 128).find? fun i => (s.slot i).state == .free

/-- A slot enters FREE: content discarded, cells returned (R17). -/
def State.freeSlot (s : State) (i : SlotIdx) : State :=
  { s.setSlot i Slot.blank with freeCells := s.freeCells + (s.slot i).content.points.length }

/-- A slot is superseded or discarded: FREE if unpinned, DRAINING if pinned (R11, R13). -/
def State.release (s : State) (i : SlotIdx) : State :=
  if (s.slot i).pins = 0 then s.freeSlot i else s.setSlot i { s.slot i with state := .draining }

/-- A grant pins the slot (R14). -/
def State.pin (s : State) (i : SlotIdx) : State := s.setSlot i { s.slot i with pins := (s.slot i).pins + 1 }

/-- A completion unpins the slot; a DRAINING slot left without a pin enters FREE (R14, R15). -/
def State.unpin (s : State) (i : SlotIdx) : State :=
  if (s.slot i).state = .draining ∧ (s.slot i).pins ≤ 1 then s.freeSlot i
  else s.setSlot i { s.slot i with pins := (s.slot i).pins - 1 }

/-- No slot is pinned (R162). -/
def State.unpinned (s : State) : Bool := (List.finRange 128).all fun i => (s.slot i).pins == 0

/-- No lookup is in flight (R99, R103). -/
def State.noLookups (s : State) : Bool := (List.finRange 4).all fun k => (s.context k).isNone

/-- A load has nothing left to wait for: no slot is pinned (R162), and no lookup is in flight, one granted without a slot
included (R99, R103, R173; log entry 13). -/
def State.drained (s : State) : Bool := s.unpinned && s.noLookups

/-- The slot a channel is BOUND to. -/
def State.boundSlot (s : State) (c : Channel) : Option SlotIdx :=
  match (s.entry c).binding with
  | .bound i => some i
  | _ => none

/-- The channel whose BOUND map entry names the slot (R126); by the law of R1 there is at most one. -/
def State.channelOf (s : State) (i : SlotIdx) : Option Channel :=
  (List.finRange 256).find? fun c => s.boundSlot c == some i

/-- Some slot is SUSPECT (R147). -/
def State.anySuspect (s : State) : Bool := (List.finRange 128).any fun i => (s.slot i).state == .suspect

/-- The revision issued after this one: plus 1, and 65535 is followed by 1 (R76). -/
def nextRevision (r : Half) : Half := if r = 0xFFFF#16 then 1#16 else r + 1#16

/-! ### Expiry (chapter 6) -/

/-- A content's due time is present and not after this part time (R18). -/
def dueBy (now : Word) (c : Content) : Bool :=
  match c.due with
  | some d => decide (d ≤ now)
  | none => false

/-- The four conditions of an expiry sweep (R116). -/
def Slot.falls (now : Word) (sl : Slot) : Bool :=
  (sl.state == .active || sl.state == .suspect) && dueBy now sl.content && !sl.expired

/-- The expiry sweep: every slot that falls due is flagged, and EXPIRED is raised for the channel whose BOUND entry
names it (R116). -/
def State.sweep (s : State) : State :=
  { s with
    slots := tabulate fun i => if (s.slot i).falls s.partTime then { s.slot i with expired := true } else s.slot i
    reasons := tabulate fun c =>
      match s.boundSlot c with
      | some i => if (s.slot i).falls s.partTime then s.reasonsOf c ||| expiredBit else s.reasonsOf c
      | none => s.reasonsOf c }

/-- The number of slots a sweep would flag (R114). -/
def State.fallingCount (s : State) : Nat := (List.finRange 128).countP fun i => (s.slot i).falls s.partTime

/-! ### The store port (R142 to R144) -/

/-- A transfer is issued: its silence timer starts. -/
def State.issue (s : State) (address : Nat) (kind : TransferKind) : State :=
  { s with port := some { address, kind, finishing := false, ticks := 0 } }

/-- The header read of an area: 64 bytes at its first address (R148, R164, R182). -/
def State.issueHeaderRead (s : State) (area : Area) : State := s.issue area.base (.read 64)

/-- The first transfer of an operation, the read of area A's header: issued now when the port is free, otherwise when
it becomes free (R144). -/
def State.issueFirst (s : State) : State :=
  match s.port with
  | none => s.issueHeaderRead .a
  | some _ => s

/-- An operation is at its first transfer (R144). -/
def Controller.atFirstTransfer : Controller → Bool
  | .saving v => v.stage == .readA
  | .loading l => l.stage == .readA
  | .repairing r => r.stage == .readA
  | .idle => false

/-- The first transfer that waited for the port is issued once the port is free (R144). -/
def State.issueDeferred (s : State) : State := if s.ctl.atFirstTransfer then s.issueFirst else s

/-- The operation ends with a transfer in progress: a read is abandoned, a page write goes on as a finishing write
(R144). A finishing write of an earlier save stays as it is. -/
def State.dropTransfer (s : State) : State :=
  match s.port with
  | none => s
  | some t =>
    if t.finishing then s
    else match t.kind with
      | .read _ => { s with port := none }
      | .write _ => { s with port := some { t with finishing := true } }

/-- The bytes that the operation's own read in progress hands over at its completion; none when no such read is in
progress, and a late reply is then ignored (R142, R143). -/
def State.readReply (s : State) : Option (List Byte) :=
  match s.port with
  | some { address, kind := .read n, finishing := false, .. } => some (Mem.readBytes s.store address n)
  | _ => none

/-- The state after the operation's own page write completes: the bytes are in the store and the port is free
(R142); none when no such write is in progress. -/
def State.writeDone (s : State) : Option State :=
  match s.port with
  | some { address, kind := .write data, finishing := false, .. } =>
    some { s with store := Mem.writeBytes s.store address data, port := none }
  | _ => none

/-! ### Repair start and mismatch (R146, R176, R181) -/

/-- A repair starts when the controller is IDLE, the queue is not empty and repair enable is on (R146, R181). A queue
head that is not BOUND, which the law of R179 excludes, starts none (log entry 20). -/
def State.startRepair (s : State) : State :=
  match s.ctl, s.repairQueue with
  | .idle, c :: rest =>
    if s.control.repairEnable then
      match s.boundSlot c with
      | some i => State.issueFirst { s with repairQueue := rest, ctl := .repairing { target := c, slot := i, stage := .readA } }
      | none => s
    else s
  | _, _ => s

/-- The channel is appended to the repair queue if it is not in it and there is room (R176). -/
def State.queueRepair (s : State) (c : Channel) : State :=
  if s.repairQueue.contains c || decide (Config.repairDepth ≤ s.repairQueue.length) then s
  else { s with repairQueue := s.repairQueue ++ [c] }

/-- A mismatch on a slot (R176): SUSPECT, the reason raised, the counter, the repair queue. -/
def State.mismatch (s : State) (i : SlotIdx) : State :=
  let s := { s.setSlot i { s.slot i with state := .suspect } with mismatches := min 255 (s.mismatches + 1) }
  match s.channelOf i with
  | some c => (s.raise c suspectBit).queueRepair c
  | none => s

/-! ### The table clear (R163) and the start of a load (R160, R161) -/

/-- The table clear: every slot FREE, every entry UNASSIGNED with revision 0, repair queue and attention set empty. -/
def State.clearTable (s : State) : State :=
  { s with
    map := Vector.replicate 256 MapEntry.blank
    slots := Vector.replicate 128 Slot.blank
    freeCells := Config.poolCells
    reasons := Vector.replicate 256 0#5
    repairQueue := [] }

/-- The clear, and phase HEADERS with area A's header read, at once or when the port is free (R163). -/
def State.beginHeaders (s : State) : State :=
  State.issueFirst { s.clearTable with ctl := .loading { stage := .readA, installed := 0, lost := 0 } }

/-- The drain ends at the first event at which no slot is pinned and no lookup is in flight (R99, R103, R162; log entry
13). -/
def State.endDrain (s : State) : State :=
  match s.ctl with
  | .loading l => if l.stage = .drain ∧ s.drained = true then s.beginHeaders else s
  | _ => s

/-- A load begins: LOADING in phase DRAIN, the engine hold set; without a pin and a lookup in flight the clear follows at
once (R160, R161). -/
def State.startLoad (s : State) : State :=
  State.endDrain { s with ctl := .loading { stage := .drain, installed := 0, lost := 0 }, hold := true }

/-! ### The ends of the three operations (R152, R171, R186) -/

/-- A save ends: IDLE, the outcome, SAVE_END; a repair may start at the same event (R146, R152). -/
def State.endSave (s : State) (o : SaveOutcome) : State :=
  State.startRepair { s.latch saveEndBit with ctl := .idle, lastSave := o }

/-- A load ends: the epoch, the hold cleared, the outcome, LOAD_END, IDLE; a repair may start (R171). -/
def State.endLoad (s : State) (o : LoadOutcome) (epoch : Word) : State :=
  State.startRepair { s.latch loadEndBit with ctl := .idle, lastLoad := o, epoch := epoch, hold := false }

/-- A repair ends: IDLE and the outcome; the next repair may start (R186). -/
def State.endRepair (s : State) (o : RepairOutcome) : State :=
  State.startRepair { s with ctl := .idle, lastRepair := o }

/-- The phase a save is in (R145). -/
def SaveStage.phase : SaveStage → SavePhase
  | .readA | .readB _ | .invalidate _ => .invalidate
  | .body _ => .body
  | .header _ | .marker _ => .header

/-- The target of a save, once chosen (R148). -/
def SaveStage.target : SaveStage → Option Target
  | .readA | .readB _ => none
  | .invalidate t | .body t | .header t | .marker t => some t

/-- The target area of a save, once chosen. -/
def SaveStage.area (st : SaveStage) : Option Area := st.target.map Target.area

/-- A save stopped by Stop Save or by Restart: a page write goes on as a finishing write (R154, R155). -/
def State.stopSave (s : State) (v : SaveState) : State :=
  s.dropTransfer.endSave (.stopped v.stage.phase v.stage.area v.done)

/-! ### The lease timer and the edit set (chapter 3) -/

/-- A restart of the lease timer takes the lease in force from the setting (R63). -/
def State.restartLease (s : State) : State :=
  { s with lease := if s.control.lease = 0#8 then .untimed else .counting s.control.lease 0 }

/-- The edit entry of a channel. -/
def State.findEdit (s : State) (c : Channel) : Option Entry := s.edits.find? fun e => e.channel == c

/-- An entry's staged slot, if it has one, is discarded (R11). -/
def State.discard (s : State) (e : Entry) : State :=
  match e.slot with
  | some i => s.release i
  | none => s

/-- Every entry is discarded in index order, the set is EMPTY and the timer STOPPED (R62, R65, R49). -/
def State.emptyEdits (s : State) : State := { s.edits.foldl State.discard s with edits := [], lease := .stopped }

/-! ### Held in reset (R160, R202) -/

/-- An event that is not taken while the device is held in reset (log entry 12). -/
def State.awake (s : State) (f : State → State) : State := if s.held then s else f s

/-- The port takes transactions: out of reset, and chip select has been high since (R202). -/
def State.portOpen (s : State) : Bool := !s.held && s.receiver == .idle

/-- A probe is pending (R194). -/
def State.probePending (s : State) : Bool := s.probe != .none

end Sys2Proof.Machine
end

