-- ==== Sys2Proof/Machine/HostPort.lean ====
section
/-! DEFINITION. The host port's shared operations: taking a frame, refusing one, answering (R190, R191, R194). -/

namespace Sys2Proof.Machine

/-- What a command answers: the state after it, its status and its payload (R191). -/
structure Answer where
  state   : State
  status  : Status
  payload : List Byte

/-- A refusal: no state changes, an empty payload. -/
def Answer.refuse (s : State) (st : Status) : Answer := { state := s, status := st, payload := [] }

/-- OK with a payload. -/
def Answer.ok (s : State) (payload : List Byte) : Answer := { state := s, status := .ok, payload }

/-- The frame is refused because a probe is pending: the buffer stays, REFUSED_FRAME is set in it (R190, R194). -/
def State.refuseFrame (s : State) : State := { s with response := { s.response with refused := true } }

/-- The response of a taken frame replaces the buffer: the counter after the increase, REFUSED_FRAME clear (R191). -/
def Answer.respond (a : Answer) (k : CommandCode) : State :=
  { a.state with
    response := { status := a.status, echo := codeByte k, counter := a.state.counter, refused := false,
                  payload := a.payload } }

/-- The command counter after a taken frame, wrapping from 255 to 0 (R191). -/
def State.count (s : State) : State := { s with counter := s.counter + 1#8 }

/-- A command frame that passed the frame checks, at its command event: not heard while the port is closed, refused
while a probe is pending, otherwise taken, counted, executed and answered (R191, R194, R202). -/
def State.takeFrame (s : State) (k : CommandCode) (run : State → Answer) : State :=
  if !s.portOpen then s
  else if s.probePending then s.refuseFrame
  else (run s.count).respond k

/-- The commands of R50, R69 and R105 are refused with LOADING before any other check while a load is in progress. -/
def unlessLoading (run : State → Answer) (s : State) : Answer :=
  if s.isLoading then .refuse s .loading else run s

/-- The status of a frame error (section 11.3). -/
def frameErrorStatus : FrameError → Status
  | .frameLength => .frameLength
  | .frameCrc => .frameCrc
  | .unknownCommand => .unknownCommand

/-- A frame that fails a frame check (R190): the error status with the code byte received, or 00h; with a probe
pending only REFUSED_FRAME. -/
def State.takeFrameError (s : State) (code : Option Byte) (e : FrameError) : State :=
  if !s.portOpen then s
  else if s.probePending then s.refuseFrame
  else
    { s with
      response := { status := frameErrorStatus e, echo := code.getD 0#8, counter := s.counter, refused := false,
                    payload := [] } }

/-- A waiting probe is removed, and a probe in flight has its context's drop mark set (R110). -/
def State.dropProbe (s : State) : State :=
  { s with
    probe := .none
    contexts := tabulate fun k =>
      match s.context k with
      | some l => if l.requester = .host then some { l with drop := true } else some l
      | none => none }

/-- A taken frame whose payload has a length its layout does not allow: LOADING first where the command's rule makes
it first, otherwise BAD_PARAM (R191). A Restart frame is taken while a probe is pending and drops it (R191, log
entry 15). -/
def State.takeBadLength (s : State) (k : CommandCode) : State :=
  let answer : State → Answer := fun s =>
    if loadingFirst k && s.isLoading then .refuse s .loading else .refuse s .badParam
  if k = .restart ∧ s.portOpen = true ∧ s.probePending = true then (answer s.dropProbe.count).respond k
  else s.takeFrame k answer

end Sys2Proof.Machine
end

