-- ==== Sys2Proof/Machine/Attention.lean ====
section
/-! DEFINITION. Read Attention, Clear Reasons and Clear Causes (chapter 7). -/

namespace Sys2Proof.Machine

/-- The lowest member at or above a channel (R134). -/
def State.memberFrom (s : State) (start : Channel) : Option Channel :=
  (List.finRange 256).find? fun c => decide (start ≤ c) && s.member c

/-- The member Read Attention found: presence, channel and every reason it holds; zeros when none was found (R134,
R204, log entry 16). -/
def State.memberBytes (s : State) (m : Option Channel) : List Byte :=
  channelItem m ++
    [match m with
     | some c => (s.reasonsOf c).zeroExtend 8
     | none => 0#8]

/-- Read Attention (R134): causes, member count, ATTN, the member found. -/
def readAttention (start : Channel) (s : State) : Answer :=
  .ok s ([s.causes.zeroExtend 8] ++ be16 (BitVec.ofNat 16 s.members.length) ++ [flagByte s.attn] ++
    s.memberBytes (s.memberFrom start))

/-- READ_ATTENTION (R134). -/
def execReadAttention (start : Channel) (s : State) : Host.Outcome State Fault Refusal :=
  .next (s.takeFrame .readAttention (readAttention start))

/-- Clear Reasons (R135): a selection outside the five is refused; the selected reasons leave the channel's set. -/
def clearReasons (c : Channel) (selection : Byte) (s : State) : Answer :=
  if selection &&& 0xE0#8 ≠ 0#8 then .refuse s .badParam
  else
    let r := s.reasonsOf c &&& ~~~(selection.setWidth 5)
    .ok (s.setReasons c r) [byteOfChannel c, r.zeroExtend 8]

/-- CLEAR_REASONS (R135). -/
def execClearReasons (c : Channel) (selection : Byte) (s : State) : Host.Outcome State Fault Refusal :=
  .next (s.takeFrame .clearReasons (clearReasons c selection))

/-- Clear Causes (R136). -/
def clearCauses (selection : Byte) (s : State) : Answer :=
  if selection &&& 0xF8#8 ≠ 0#8 then .refuse s .badParam
  else
    let causes := s.causes &&& ~~~(selection.setWidth 3)
    .ok { s with causes } [causes.zeroExtend 8]

/-- CLEAR_CAUSES (R136). -/
def execClearCauses (selection : Byte) (s : State) : Host.Outcome State Fault Refusal :=
  .next (s.takeFrame .clearCauses (clearCauses selection))

end Sys2Proof.Machine
end

