-- ==== Sys2Proof/Machine/Commit.lean ====
section
/-! DEFINITION. Commit: validation and the commit event (chapter 4). -/

namespace Sys2Proof.Machine

/-- Why an entry fails validation (R71). -/
inductive RejectReason where
  | points | order | limits | duePast
  deriving DecidableEq, Repr

/-- POINTS 00h, ORDER 01h, LIMITS 02h, DUE_PAST 03h (R204). -/
def rejectCode : RejectReason → Byte
  | .points => 0#8 | .order => 1#8 | .limits => 2#8 | .duePast => 3#8

/-- The four checks on a staged record, in order (R71 to R73). -/
def validateContent (now : Word) (c : Content) : Option RejectReason :=
  if c.points.length < 2 then some .points
  else if contentOrdered c = false then some .order
  else if contentLimitsOk c = false then some .limits
  else if dueBy now c then some .duePast
  else none

/-- An entry's validation; a RETIRE entry passes (R71). -/
def State.validateEntry (s : State) (e : Entry) : Option RejectReason :=
  match e.slot with
  | some i => validateContent s.partTime (s.slot i).content
  | none => none

/-- The first failing entry in index order and its reason (R71). -/
def State.firstFailure (s : State) : List Entry → Nat → Option (Nat × RejectReason)
  | [], _ => none
  | e :: rest, index =>
    match s.validateEntry e with
    | some r => some (index, r)
    | none => State.firstFailure s rest (index + 1)

/-- The slot a channel is bound to is superseded, if there is one (R13, R78, R79). -/
def State.supersede (s : State) (c : Channel) : State :=
  match s.boundSlot c with
  | some i => s.release i
  | none => s

/-- The staged slot is installed (R10, R77): channel and revision written, content CRC computed, expired flag
cleared, pin count kept; the channel BOUND to it under the new revision. -/
def State.installStaged (s : State) (c : Channel) (i : SlotIdx) (revision : Half) : State :=
  let content := { (s.slot i).content with channel := c, revision }
  (s.setSlot i { s.slot i with state := .active, expired := false, content := { content with crc := contentCrc content } }).setEntry
    c { binding := .bound i, revision }

/-- What the accepted commit does for one entry (R75 to R80): supersede, install or make UNASSIGNED, clear the
channel's reasons and its repair queue entry. -/
def State.applyEntry (s : State) (e : Entry) : State :=
  let revision := (s.entry e.channel).revision
  let s1 := s.supersede e.channel
  let s2 :=
    match e.slot with
    | some i => s1.installStaged e.channel i (nextRevision revision)
    | none => s1.setEntry e.channel { binding := .unassigned, revision }
  { s2.setReasons e.channel 0#5 with repairQueue := s2.repairQueue.filter fun c => c != e.channel }

/-- The payload of an accepted commit: the epoch, the number of entries, and each channel with its map revision
(R75). -/
def commitPayload (after : State) (entries : List Entry) : List Byte :=
  be32 after.epoch ++ [byteOf entries.length] ++
    entries.flatMap fun e => byteOfChannel e.channel :: be16 (after.entry e.channel).revision

/-- Commit: the checks of R69, validation, and the commit event (R71, R74, R75). -/
def commit : State → Answer := unlessLoading fun s =>
  if s.edits.isEmpty then .refuse s .noEdit
  else if s.isSaving then .refuse s .storeBusy
  else match s.firstFailure s.edits 0 with
    | some (index, r) => { state := s.restartLease, status := .rejected, payload := [byteOf index, rejectCode r] }
    | none =>
      let after : State :=
        { s.edits.foldl State.applyEntry s with epoch := s.epoch + 1#32, edits := [], lease := .stopped }
      .ok after (commitPayload after s.edits)

/-- COMMIT (R69, R75). -/
def execCommit (s : State) : Host.Outcome State Fault Refusal :=
  .next (s.takeFrame .commit commit)

end Sys2Proof.Machine
end

