-- ==== Sys2Proof/Machine/Control.lean ====
section
/-! DEFINITION. Set Control, Read Control, Read Status, Read Identity (chapter 11). -/

namespace Sys2Proof.Machine

/-! ### Set Control and Read Control (R195 to R197) -/

/-- Every setting, in the order of the Read Control response (R197). DEDUCED: the lease, the step, the thresholds and the
masks take 1 byte each, as in the Set Control request; R204's response widths do not name them (log entry 28). -/
def controlBytes (c : Control) : List Byte :=
  [c.lease, c.step, flagByte c.repairEnable] ++ c.laneEnable.toList.map flagByte ++ c.threshold.toList ++
    [c.reasonMask.zeroExtend 8, c.causeMask.zeroExtend 8]

/-- The setting at this place of the selection is written (R204). -/
def selects (selection : Half) (place : Nat) : Bool := selection.getLsbD place

/-- An enable byte holds on or off. -/
def enableOk (b : Byte) : Bool := b == 0#8 || b == 1#8

/-- A threshold lies in 1 to 8. -/
def thresholdOk (b : Byte) : Bool := decide (1 ≤ b.toNat) && decide (b.toNat ≤ 8)

/-- The checks of R195: the selection marks only the thirteen settings, and each selected value is in its range. -/
def controlOk (selection : Half) (v : ControlBytes) : Bool :=
  selection &&& 0xE000#16 == 0#16 &&
    (!selects selection 2 || enableOk v.repairEnable) &&
    (List.finRange 4).all (fun n => !selects selection (3 + n.val) || enableOk (v.laneEnable.get n)) &&
    (List.finRange 4).all (fun n => !selects selection (7 + n.val) || thresholdOk (v.threshold.get n)) &&
    (!selects selection 11 || v.reasonMask &&& 0xE0#8 == 0#8) &&
    (!selects selection 12 || v.causeMask &&& 0xF8#8 == 0#8)

/-- The settings after the write (R195). -/
def writeControl (selection : Half) (v : ControlBytes) (c : Control) : Control :=
  { lease := if selects selection 0 then v.lease else c.lease
    step := if selects selection 1 then v.step else c.step
    repairEnable := if selects selection 2 then v.repairEnable == 1#8 else c.repairEnable
    laneEnable := tabulate fun n =>
      if selects selection (3 + n.val) then v.laneEnable.get n == 1#8 else c.laneEnable.get n
    threshold := tabulate fun n => if selects selection (7 + n.val) then v.threshold.get n else c.threshold.get n
    reasonMask := if selects selection 11 then v.reasonMask.setWidth 5 else c.reasonMask
    causeMask := if selects selection 12 then v.causeMask.setWidth 3 else c.causeMask }

/-- Set Control (R195, R196): written whole; a written step restarts the step timer; a written repair enable may start
a repair. The lines and ATTN follow the settings. -/
def setControl (selection : Half) (v : ControlBytes) (s : State) : Answer :=
  if !controlOk selection v then .refuse s .badParam
  else
    let control := writeControl selection v s.control
    let s1 := { s with control, scrubCount := if selects selection 1 then 0 else s.scrubCount }
    .ok s1.startRepair (controlBytes control)

/-- SET_CONTROL (R195). -/
def execSetControl (selection : Half) (v : ControlBytes) (s : State) : Host.Outcome State Fault Refusal :=
  .next (s.takeFrame .setControl (setControl selection v))

/-- Read Control (R197). -/
def readControl (s : State) : Answer := .ok s (controlBytes s.control)

/-- READ_CONTROL (R197). -/
def execReadControl (s : State) : Host.Outcome State Fault Refusal :=
  .next (s.takeFrame .readControl readControl)

/-! ### Read Status (R198, R199, R204) -/

/-- A count as a 4-byte item. -/
def word32 (n : Nat) : List Byte := be32 (BitVec.ofNat 32 n)

/-- The phase of a load: DRAIN 00h, HEADERS 01h, BODY 02h (R204). -/
def loadPhaseCode : LoadStage → Byte
  | .drain => 0#8 | .readA => 1#8 | .readB _ => 1#8 | .head _ => 2#8 | .tail _ _ => 2#8

/-- The walk of a load, once an image is chosen. -/
def LoadStage.walk : LoadStage → Option Walk
  | .head w | .tail w _ => some w
  | .drain | .readA | .readB _ => none

/-- The phase of a repair: HEADERS 00h, WALK 01h (R204). -/
def repairPhaseCode : RepairStage → Byte
  | .readA => 0#8 | .readB _ => 0#8 | .head _ => 1#8 | .tail _ _ => 1#8

/-- The walk of a repair, once an image is chosen. -/
def RepairStage.walk : RepairStage → Option Walk
  | .head w | .tail w _ => some w
  | .readA | .readB _ => none

/-- A generation, or FFh in every byte where none is chosen. -/
def generationBytes : Option Target → List Byte
  | some t => be32 t.generation
  | none => absent 4

/-- The store controller's field (15 bytes): state, phase, area, generation to be written, body bytes completed,
channel with its presence, installed and lost counts (R199, R204). -/
def controllerBytes : Controller → List Byte
  | .idle => [0#8] ++ absent 2 ++ absent 4 ++ absent 4 ++ channelItem none ++ absent 2
  | .saving v =>
    [1#8, savePhaseCode v.stage.phase, areaByte v.stage.area] ++ generationBytes v.stage.target ++ word32 v.done ++
      channelItem none ++ absent 2
  | .loading l =>
    [2#8, loadPhaseCode l.stage, areaByte (l.stage.walk.map Walk.area)] ++ absent 4 ++ absent 4 ++
      channelItem (l.stage.walk.map Walk.expected) ++ [byteOf l.installed, byteOf l.lost]
  | .repairing r =>
    [3#8, repairPhaseCode r.stage, areaByte (r.stage.walk.map Walk.area)] ++ absent 4 ++ absent 4 ++
      channelItem (some r.target) ++ absent 2

/-- The last save outcome's field (17 bytes): outcome, phase, target area, channel, generation, epoch, record count,
body length or body bytes completed (R152, R204; an absent channel is log entry 16). -/
def saveOutcomeBytes : SaveOutcome → List Byte
  | .none => [0#8] ++ absent 16
  | .done area generation epoch count bodyLength =>
    [match area with
     | .a => 1#8
     | .b => 2#8] ++ absent 1 ++ [areaCode area] ++ absent 1 ++ be32 generation ++ be32 epoch ++ [byteOf count] ++
      word32 bodyLength
  | .failedStore phase target bodyDone =>
    [3#8, savePhaseCode phase, areaByte target] ++ absent 1 ++ absent 4 ++ absent 4 ++ absent 1 ++ word32 bodyDone
  | .failedCorrupt channel target bodyDone =>
    [4#8] ++ absent 1 ++ [areaCode target, byteOfChannel channel] ++ absent 4 ++ absent 4 ++ absent 1 ++ word32 bodyDone
  | .stopped phase target bodyDone =>
    [5#8, savePhaseCode phase, areaByte target] ++ absent 1 ++ absent 4 ++ absent 4 ++ absent 1 ++ word32 bodyDone

/-- The last load outcome's field (13 bytes): outcome, area, generation, epoch, record count, installed and lost
counts (R171, R204). -/
def loadOutcomeBytes : LoadOutcome → List Byte
  | .none => [0#8] ++ absent 12
  | .loaded area generation epoch count =>
    [1#8, areaCode area] ++ be32 generation ++ be32 epoch ++ [byteOf count] ++ absent 2
  | .part area generation epoch installed lost =>
    [2#8, areaCode area] ++ be32 generation ++ be32 epoch ++ absent 1 ++ [byteOf installed, byteOf lost]
  | .storeFault area generation epoch installed lost =>
    [3#8, areaCode area] ++ be32 generation ++ be32 epoch ++ absent 1 ++ [byteOf installed, byteOf lost]
  | .noImage => [4#8] ++ absent 1 ++ absent 4 ++ be32 0#32 ++ absent 3

/-- The last repair outcome's field (6 bytes): outcome, channel, area, revision, new slot (R186, R204). -/
def repairOutcomeBytes : RepairOutcome → List Byte
  | .none => [0#8] ++ absent 5
  | .installed channel area revision slot =>
    [1#8, byteOfChannel channel, areaCode area] ++ be16 revision ++ [byteOf slot.val]
  | .notFound channel area => [2#8, byteOfChannel channel, areaByte area] ++ absent 3
  | .superseded channel area => [3#8, byteOfChannel channel, areaCode area] ++ absent 3
  | .stale channel area revision => [4#8, byteOfChannel channel, areaCode area] ++ be16 revision ++ absent 1
  | .noRoom channel area => [5#8, byteOfChannel channel, areaCode area] ++ absent 3
  | .storeFault channel area => [6#8, byteOfChannel channel, areaCode area] ++ absent 3

/-- The repair queue: its count and 8 channel bytes, head first, FFh beyond the count (R204). -/
def queueBytes (q : List Channel) : List Byte :=
  byteOf q.length :: (q.map byteOfChannel ++ absent 8).take 8

/-- The items of Read Status in the order of R198. -/
def State.statusBytes (s : State) : List Byte :=
  be32 s.epoch ++ [byteOf s.freeSlots] ++ be16 (BitVec.ofNat 16 s.freeCells) ++ [byteOf s.edits.length] ++
    be32 s.partTime ++ [byteOf s.mismatches] ++ controllerBytes s.ctl ++ queueBytes s.repairQueue ++
    saveOutcomeBytes s.lastSave ++ loadOutcomeBytes s.lastLoad ++ repairOutcomeBytes s.lastRepair

/-- Read Status (R198): the report, and the mismatch counter set to 0 after it (R177). -/
def readStatus (s : State) : Answer := .ok { s with mismatches := 0 } s.statusBytes

/-- READ_STATUS (R198). -/
def execReadStatus (s : State) : Host.Outcome State Fault Refusal :=
  .next (s.takeFrame .readStatus readStatus)

/-! ### Read Identity (R200) -/

/-- The fixed values of R200: vendor 5456h, part 0128h, silicon revision 1, 256 channels, 128 slots, 2048 pool cells,
16 edit entries, 4 lanes; the codes, the revision, and the channel and pool-cell capacities in 2 bytes, the other
capacities in 1 (R204). -/
def identityBytes : List Byte :=
  be16 0x5456#16 ++ be16 0x0128#16 ++ be16 1#16 ++ be16 256#16 ++ [128#8] ++ be16 2048#16 ++ [16#8, 4#8]

/-- Read Identity (R200). -/
def readIdentity (s : State) : Answer := .ok s identityBytes

/-- READ_IDENTITY (R200). -/
def execReadIdentity (s : State) : Host.Outcome State Fault Refusal :=
  .next (s.takeFrame .readIdentity readIdentity)

end Sys2Proof.Machine
end

