-- ==== Sys2Proof/Machine/Edit.lean ====
section
/-! DEFINITION. The edit commands (chapter 3): Open Edit, Set Fields, Set Label, Put Points, Trim Points, Drop Edit,
Abandon and Read Edit Set. -/

namespace Sys2Proof.Machine

/-! ### Open Edit (R51 to R55) -/

/-- The kind fits the channel's map entry and bound slot (R52). -/
def State.kindFits (s : State) (c : Channel) (kind : EditKind) : Bool :=
  match kind, (s.entry c).binding with
  | .create, .unassigned => true
  | .create, .lost => true
  | .create, .bound _ => false
  | .replaceCopy, .bound i => (s.slot i).state == .active
  | .replaceCopy, _ => false
  | .replaceEmpty, .bound i => (s.slot i).state == .active || (s.slot i).state == .suspect
  | .replaceEmpty, _ => false
  | .retire, .unassigned => false
  | .retire, _ => true

/-- The staged content of a new entry: the empty defaults, or a copy of the source's fields; the entry's channel,
revision and CRC 0 (R6, R55). -/
def stagedContent (c : Channel) (source : Option Content) : Content :=
  { source.getD blankContent with channel := c, revision := 0#16, crc := 0#16 }

/-- An accepted Open Edit (R55): the entry is appended, the slot and the cells are taken together, the lease timer is
restarted; the response carries the index and the slot, FFh for RETIRE. -/
def State.openEntry (s : State) (c : Channel) (kind : EditKind) (taken : Option (SlotIdx × Content)) : Answer :=
  let s1 : State :=
    match taken with
    | some (i, content) =>
      { s.setSlot i { state := .staged, pins := 0, expired := false, content } with
        freeCells := s.freeCells - content.points.length }
    | none => s
  let slot := taken.map Prod.fst
  .ok (State.restartLease { s1 with edits := s.edits ++ [{ channel := c, kind, slot }] })
    [byteOf s.edits.length, slotByte slot]

/-- The checks of R51 from the sixth on, for a kind that takes a slot; the source of a REPLACE_COPY is the bound slot.
A mismatch of the copy check marks the source as a scrub mismatch does (R54), and a repair may start (R176). -/
def State.openStaged (s : State) (c : Channel) (kind : EditKind) : Answer :=
  match s.lowestFree with
  | none => .refuse s .noSlot
  | some i =>
    match kind, s.boundSlot c with
    | .replaceCopy, some src =>
      let content := (s.slot src).content
      if s.freeCells < content.points.length then .refuse s .poolFull
      else if !contentSound content then .refuse (s.mismatch src).startRepair .wrongState
      else s.openEntry c kind (some (i, stagedContent c (some content)))
    | _, _ => s.openEntry c kind (some (i, stagedContent c none))

/-- Open Edit, its checks in the order of R51. -/
def openEdit (c : Channel) (kindByte : Byte) : State → Answer := unlessLoading fun s =>
  match kindOfCode kindByte with
  | none => .refuse s .badParam
  | some kind =>
    if (s.findEdit c).isSome then .refuse s .inEdit
    else if Config.maxEdits ≤ s.edits.length then .refuse s .setFull
    else if !s.kindFits c kind then .refuse s .wrongState
    else if kind = .retire then s.openEntry c kind none
    else s.openStaged c kind

/-- OPEN_EDIT (R51). -/
def execOpenEdit (c : Channel) (kind : Byte) (s : State) : Host.Outcome State Fault Refusal :=
  .next (s.takeFrame .openEdit (openEdit c kind))

/-! ### Content commands (R56 to R60) -/

/-- The checks the content commands share, in the order of R56: LOADING, NOT_IN_EDIT, WRONG_STATE; then the command's
own on the staged slot. -/
def onStaged (c : Channel) (run : State → SlotIdx → Answer) : State → Answer := unlessLoading fun s =>
  match s.findEdit c with
  | none => .refuse s .notInEdit
  | some e =>
    match e.slot with
    | none => .refuse s .wrongState
    | some i => run s i

/-- An accepted content command: the staged content replaced, the lease timer restarted, OK (R56). -/
def State.stage (s : State) (i : SlotIdx) (content : Content) : Answer :=
  .ok (s.setSlot i { s.slot i with content }).restartLease []

/-- Set Fields (R57): five items replaced at once. -/
def setFields (c : Channel) (f : FieldBytes) : State → Answer := onStaged c fun s i =>
  match decodeFields f with
  | none => .refuse s .badParam
  | some v =>
    s.stage i { (s.slot i).content with format := v.format, endMode := v.endMode, action := v.action,
                                        limits := v.limits, due := v.due }

/-- SET_FIELDS (R57). -/
def execSetFields (c : Channel) (f : FieldBytes) (s : State) : Host.Outcome State Fault Refusal :=
  .next (s.takeFrame .setFields (setFields c f))

/-- Set Label (R58). -/
def setLabel (c : Channel) (label : List Byte) : State → Answer := onStaged c fun s i =>
  if 15 < label.length ∨ label.all printable = false then .refuse s .badParam
  else s.stage i { (s.slot i).content with label }

/-- SET_LABEL (R58). -/
def execSetLabel (c : Channel) (label : List Byte) (s : State) : Host.Outcome State Fault Refusal :=
  .next (s.takeFrame .setLabel (setLabel c label))

/-- The list after points are written at positions start to start + n - 1 (R59). -/
def overwrite (list : List Point) (start : Nat) (points : List Point) : List Point :=
  list.take start ++ points ++ list.drop (start + points.length)

/-- Put Points (R59): BAD_PARAM, then POOL_FULL for the new cells, then the points are written. -/
def putPoints (c : Channel) (start : Byte) (points : List Point) : State → Answer := onStaged c fun s i =>
  let list := (s.slot i).content.points
  let n := points.length
  let need := start.toNat + n - list.length
  if n = 0 ∨ 12 < n ∨ list.length < start.toNat ∨ Config.maxPoints < start.toNat + n then .refuse s .badParam
  else if s.freeCells < need then .refuse s .poolFull
  else { s with freeCells := s.freeCells - need }.stage i
        { (s.slot i).content with points := overwrite list start.toNat points }

/-- PUT_POINTS (R59). -/
def execPutPoints (c : Channel) (start : Byte) (points : List Point) (s : State) : Host.Outcome State Fault Refusal :=
  .next (s.takeFrame .putPoints (putPoints c start points))

/-- Trim Points (R60): the list shortened, its cells returned. -/
def trimPoints (c : Channel) (count : Byte) : State → Answer := onStaged c fun s i =>
  let list := (s.slot i).content.points
  if list.length < count.toNat then .refuse s .badParam
  else { s with freeCells := s.freeCells + (list.length - count.toNat) }.stage i
        { (s.slot i).content with points := list.take count.toNat }

/-- TRIM_POINTS (R60). -/
def execTrimPoints (c : Channel) (count : Byte) (s : State) : Host.Outcome State Fault Refusal :=
  .next (s.takeFrame .trimPoints (trimPoints c count))

/-! ### Removing entries (R61, R62) -/

/-- Drop Edit (R61): the entry removed, its staged slot discarded, the lease timer restarted or stopped. -/
def dropEdit (c : Channel) : State → Answer := unlessLoading fun s =>
  match s.findEdit c with
  | none => .refuse s .notInEdit
  | some e =>
    let rest := s.edits.eraseP fun e => e.channel == c
    let s1 : State := { s.discard e with edits := rest }
    .ok (if rest.isEmpty then { s1 with lease := .stopped } else s1.restartLease) []

/-- DROP_EDIT (R61). -/
def execDropEdit (c : Channel) (s : State) : Host.Outcome State Fault Refusal :=
  .next (s.takeFrame .dropEdit (dropEdit c))

/-- Abandon (R62). -/
def abandon : State → Answer := unlessLoading fun s =>
  if s.edits.isEmpty then .refuse s .noEdit else .ok s.emptyEdits []

/-- ABANDON (R62). -/
def execAbandon (s : State) : Host.Outcome State Fault Refusal :=
  .next (s.takeFrame .abandon abandon)

/-! ### Read Edit Set (R68) -/

/-- The lease timer's items: its state, then L and k, FFh unless COUNTING (R68, R204, log entry 16). -/
def leaseBytes : LeaseTimer → List Byte
  | .stopped => [0#8] ++ absent 2
  | .untimed => [1#8] ++ absent 2
  | .counting l k => [2#8, l, byteOf k]

/-- An entry's items: index, channel, kind, staged slot or FFh, and the staged list's point count (R68). -/
def State.entryBytes (s : State) (e : Entry) (index : Nat) : List Byte :=
  [byteOf index, byteOfChannel e.channel, kindCode e.kind, slotByte e.slot,
   match e.slot with
   | some i => byteOf (s.slot i).content.points.length
   | none => 0#8]

/-- Read Edit Set (R68): the size, the timer and up to 8 entries from the start index. -/
def readEditSet (start : Byte) (s : State) : Answer :=
  if 15 < start.toNat then .refuse s .badParam
  else
    .ok s ([byteOf s.edits.length] ++ leaseBytes s.lease ++
      (((s.edits.drop start.toNat).take 8).zipIdx start.toNat).flatMap fun (e, i) => s.entryBytes e i)

/-- READ_EDIT_SET (R68). -/
def execReadEditSet (start : Byte) (s : State) : Host.Outcome State Fault Refusal :=
  .next (s.takeFrame .readEditSet (readEditSet start))

end Sys2Proof.Machine
end

