-- ==== Sys2Proof/Machine/Inspect.lean ====
section
/-! DEFINITION. The inspection commands of chapter 1: Read Map Entry, Read Record, Read Points. A read changes no
state. -/

namespace Sys2Proof.Machine

/-- Read Map Entry (R26): kind, slot number, revision. -/
def readMapEntry (c : Channel) (s : State) : Answer :=
  let e := s.entry c
  .ok s ([bindingCode e.binding, bindingSlotByte e.binding] ++ be16 e.revision)

/-- READ_MAP_ENTRY (R26). -/
def execReadMapEntry (c : Channel) (s : State) : Host.Outcome State Fault Refusal :=
  .next (s.takeFrame .readMapEntry (readMapEntry c))

/-- The slot a selector names, or the refusal of R27. -/
def State.selectRecord (s : State) (c : Channel) (which : Byte) : Except Status (Which × SlotIdx) :=
  match whichOfCode which with
  | none => .error .badParam
  | some .active =>
    match s.boundSlot c with
    | some i => .ok (.active, i)
    | none => .error .wrongState
  | some .staged =>
    match s.findEdit c with
    | none => .error .notInEdit
    | some e =>
      match e.slot with
      | some i => .ok (.staged, i)
      | none => .error .wrongState

/-- A label as 16 bytes: the characters, then 00h up to the sixteenth (R204). -/
def labelField (label : List Byte) : List Byte := (label ++ List.replicate 16 0#8).take 16

/-- Limits: presence, low, high, zeros when absent (R204). -/
def limitsField : Option Limits → List Byte
  | some l => [1#8] ++ be24 l.low ++ be24 l.high
  | none => [0#8] ++ be24 0#24 ++ be24 0#24

/-- Due time: presence and value, zeros when absent (R204). DEDUCED: the value takes 4 bytes, as in the Set Fields request;
R204's response widths do not name it (log entry 28). -/
def dueField : Option Word → List Byte
  | some d => [1#8] ++ be32 d
  | none => [0#8] ++ be32 0#32

/-- The items of Read Record in the order R27 lists them. A staged record's state is STAGED, its revision and CRC 0
and its expired flag clear, whatever the slot holds. -/
def recordBytes (which : Which) (i : SlotIdx) (sl : Slot) : List Byte :=
  let c := sl.content
  let staged := which == .staged
  [byteOf i.val, slotStateCode (if staged then .staged else sl.state)] ++
    be16 (if staged then 0#16 else c.revision) ++
    [formatCode c.format, endModeCode c.endMode, actionCode c.action] ++
    limitsField c.limits ++ dueField c.due ++ labelField c.label ++ [byteOf c.points.length] ++
    be16 (if staged then 0#16 else c.crc) ++ [flagByte (!staged && sl.expired), byteOf sl.pins]

/-- Read Record (R27). -/
def readRecord (c : Channel) (which : Byte) (s : State) : Answer :=
  match s.selectRecord c which with
  | .error st => .refuse s st
  | .ok (w, i) => .ok s (recordBytes w i (s.slot i))

/-- READ_RECORD (R27). -/
def execReadRecord (c : Channel) (which : Byte) (s : State) : Host.Outcome State Fault Refusal :=
  .next (s.takeFrame .readRecord (readRecord c which))

/-- Read Points (R28): up to 12 points as stored. -/
def readPoints (c : Channel) (which start count : Byte) (s : State) : Answer :=
  match s.selectRecord c which with
  | .error st => .refuse s st
  | .ok (_, i) =>
    let list := (s.slot i).content.points
    if count.toNat = 0 ∨ 12 < count.toNat ∨ list.length < start.toNat + count.toNat then .refuse s .badParam
    else .ok s (((list.drop start.toNat).take count.toNat).flatMap pointBytes)

/-- READ_POINTS (R28). -/
def execReadPoints (c : Channel) (which start count : Byte) (s : State) : Host.Outcome State Fault Refusal :=
  .next (s.takeFrame .readPoints (readPoints c which start count))

end Sys2Proof.Machine
end

