-- ==== Sys2Proof/Machine/Load.lean ====
section
/-! DEFINITION. Loading the table: Reload, the table clear, the header choice, the body walk (chapter 9). -/

namespace Sys2Proof.Machine

/-! ### Reload and the table clear (R161, R163) -/

/-- Reload, its checks in the order of R161. -/
def reload (s : State) : Answer :=
  if !s.isIdle then .refuse s .storeBusy
  else if !s.edits.isEmpty then .refuse s .editOpen
  else { state := s.startLoad, status := .accepted, payload := [] }

/-- RELOAD (R161). -/
def execReload (s : State) : Host.Outcome State Fault Refusal :=
  .next (s.takeFrame .reload reload)

/-- TABLE_CLEAR (R163): taken when a load is draining, no slot is pinned and no lookup is in flight. Within the event
that ends the drain it has happened already (log entry 8). -/
def execTableClear (s : State) : Host.Outcome State Fault Refusal :=
  .next (s.awake State.endDrain)

/-! ### The walk (R165 to R169) -/

/-- The address of the record image a walk expects (R165). -/
def Walk.address (w : Walk) : Nat := w.area.base + Config.pageBytes + w.offset

/-- A channel marked LOST: its entry, its reason (R169); the count is the caller's. -/
def State.markLost (s : State) (c : Channel) (revision : Half) : State :=
  (s.setEntry c { binding := .lost, revision }).raise c lostBit

/-- The end of a walk: LOADED, or PARTIAL with at least one channel lost (R171). -/
def walkOutcome (area : Area) (h : Header) (installed lost : Nat) : LoadOutcome :=
  if lost = 0 then .loaded area h.generation h.epoch h.count else .part area h.generation h.epoch installed lost

/-- The walk goes on with the next channel marked present, at this offset, or the load ends (R165, R171). -/
def State.walkOn (s : State) (area : Area) (h : Header) (channels : List Channel) (offset installed lost : Nat) : State :=
  match channels with
  | [] => s.endLoad (walkOutcome area h installed lost) h.epoch
  | c :: later =>
    let w : Walk := { area, header := h, expected := c, later, offset }
    State.issue { s with ctl := .loading { stage := .head w, installed, lost } } w.address (.read 18)

/-- The choice after the second header (R164): the walk begins at the lowest channel marked, or NO_IMAGE. -/
def State.chooseImage (s : State) (a b : Option Header) : State :=
  match newest a b with
  | none => s.endLoad .noImage 0#32
  | some (area, h) => s.walkOn area h h.presence 0 0 0

/-- Every channel from the expected one on is LOST with revision 0 (R166, R170). -/
def State.loseRest (s : State) (w : Walk) : State := (w.expected :: w.later).foldl (fun s c => s.markLost c 0#16) s

/-- The lost count after the rest of a walk is lost. -/
def Walk.lostWith (w : Walk) (lost : Nat) : Nat := lost + (w.later.length + 1)

/-- An untrusted record ends the walk: PARTIAL (R166). -/
def State.untrusted (s : State) (l : LoadState) (w : Walk) : State :=
  (s.loseRest w).endLoad (.part w.area w.header.generation w.header.epoch l.installed (w.lostWith l.lost)) w.header.epoch

/-- The checks on a head that has been read (R165): channel, revision, and the body bound. -/
def headTrusted (w : Walk) (h : RecordHead) : Bool :=
  h.channel == w.expected && h.revision != 0#16 && decide (w.offset + h.size ≤ w.header.bodyLength)

/-- The slot of a record brought back from the store: ACTIVE, unpinned, with this expired flag (R16). -/
def installedSlot (content : Content) (expired : Bool) : Slot := { state := .active, pins := 0, expired, content }

/-- A load installs a record (R168): slot and cells taken together, the channel BOUND, the flag from part time, and
EXPIRED raised when it is set (R121). -/
def State.loadInstall (s : State) (i : SlotIdx) (content : Content) : State :=
  let expired := dueBy s.partTime content
  let s1 : State :=
    { (s.setSlot i (installedSlot content expired)).setEntry content.channel
        { binding := .bound i, revision := content.revision } with
      freeCells := s.freeCells - content.points.length }
  if expired then s1.raise content.channel expiredBit else s1

/-- A slot and this many cells, both or neither (R8, R21). -/
def State.room (s : State) (cells : Nat) : Option SlotIdx := if cells ≤ s.freeCells then s.lowestFree else none

/-- The tail of the expected record has been read (R166 to R168): untrusted, invalid, without room, or installed. -/
def State.loadTail (s : State) (l : LoadState) (w : Walk) (head tail : List Byte) : State :=
  let h := decodeHead head
  let content := decodeRecord head tail
  if imageCrc head tail ≠ h.crc then s.untrusted l w
  else
    let lose := (s.markLost w.expected h.revision).walkOn w.area w.header w.later (w.offset + h.size) l.installed (l.lost + 1)
    if !fieldsValid head tail then lose
    else match s.room h.count with
      | none => lose
      | some i =>
        (s.loadInstall i content).walkOn w.area w.header w.later (w.offset + h.size) (l.installed + 1) l.lost

/-- The head of the expected record has been read (R165): untrusted, or the tail read issued; a tail of 0 bytes
issues no transfer and completes at once. -/
def State.loadHead (s : State) (l : LoadState) (w : Walk) (head : List Byte) : State :=
  let h := decodeHead head
  if !headTrusted w h then s.untrusted l w
  else if h.tailLength = 0 then s.loadTail l w head []
  else State.issue { s with ctl := .loading { l with stage := .tail w head } } (w.address + 18) (.read h.tailLength)

/-! ### The events of a load -/

/-- What follows when area A has been judged, and area B (R164). -/
def State.loadHeader (s : State) (l : LoadState) (found : Option Header) : State :=
  match l.stage with
  | .readA => State.issueHeaderRead { s with ctl := .loading { l with stage := .readB found } } .b
  | .readB a => s.chooseImage a found
  | _ => s

/-- The load is reading a header. -/
def LoadStage.inHeaders : LoadStage → Bool
  | .readA | .readB _ => true
  | _ => false

/-- A header read of a load completes (R164). -/
def State.loadHeaderRead (s : State) : State :=
  match s.ctl, s.readReply with
  | .loading l, some bytes =>
    if l.stage.inHeaders then State.loadHeader { s with port := none } l (parseHeader bytes) else s
  | _, _ => s

/-- LOAD_HEADER_READ_COMPLETION (R164). -/
def execLoadHeaderReadCompletion (s : State) : Host.Outcome State Fault Refusal :=
  .next (s.awake State.loadHeaderRead)

/-- A head read of a load completes (R165). -/
def State.loadHeadRead (s : State) : State :=
  match s.ctl, s.readReply with
  | .loading l, some bytes =>
    match l.stage with
    | .head w => State.loadHead { s with port := none } l w bytes
    | _ => s
  | _, _ => s

/-- LOAD_HEAD_READ_COMPLETION (R165). -/
def execLoadHeadReadCompletion (s : State) : Host.Outcome State Fault Refusal :=
  .next (s.awake State.loadHeadRead)

/-- A tail read of a load completes (R166). -/
def State.loadTailRead (s : State) : State :=
  match s.ctl, s.readReply with
  | .loading l, some bytes =>
    match l.stage with
    | .tail w head => State.loadTail { s with port := none } l w head bytes
    | _ => s
  | _, _ => s

/-- LOAD_TAIL_READ_COMPLETION (R166). -/
def execLoadTailReadCompletion (s : State) : Host.Outcome State Fault Refusal :=
  .next (s.awake State.loadTailRead)

/-- A read of a load falls silent: a header's area holds no valid image (R164); in the walk every channel from the
expected one on is LOST and the load ends STORE_FAULT (R170). -/
def State.loadSilent (s : State) (l : LoadState) : State :=
  match l.stage with
  | .drain => s
  | .readA | .readB _ => s.loadHeader l none
  | .head w | .tail w _ =>
    (s.loseRest w).endLoad (.storeFault w.area w.header.generation w.header.epoch l.installed (w.lostWith l.lost))
      w.header.epoch

end Sys2Proof.Machine
end

