-- ==== Sys2Proof/Machine/Lookup.lean ====
section
/-! DEFINITION. Sample lanes, the arbiter, grants and completions, and Probe (chapter 5). -/

namespace Sys2Proof.Machine

/-! ### The lane interface (R89 to R93) -/

/-- Ready on a lane's inward port (R90); withdrawn while the device is held in reset (log entry 12). -/
def State.laneReady (s : State) (n : LaneIdx) : Bool :=
  !s.held && s.control.laneEnable.get n && decide ((s.lane n).requests.length < Config.laneDepth)

/-- Valid on a lane's outward port (R92). -/
def State.laneValid (s : State) (n : LaneIdx) : Bool := !(s.lane n).results.isEmpty

/-- The word on a lane's outward port while valid is asserted (R92, R205). -/
def State.laneWord (s : State) (n : LaneIdx) : Option (BitVec 72) := (s.lane n).results.head?.map resultWord

/-- A lane's result-ready line (R93). -/
def State.resultReady (s : State) (n : LaneIdx) : Bool :=
  s.laneValid n && decide ((s.control.threshold.get n).toNat ≤ (s.lane n).results.length)

/-- A request word presented with valid: taken at the tail of the queue when ready is asserted (R90). -/
def State.arrive (s : State) (n : LaneIdx) (word : Word) : State :=
  if s.laneReady n then
    s.setLane n { s.lane n with requests := (s.lane n).requests ++ [requestOfWord word] }
  else s

/-- REQUEST_ARRIVAL (R90). -/
def execRequestArrival (n : LaneIdx) (word : Word) (s : State) : Host.Outcome State Fault Refusal :=
  .next (s.arrive n word)

/-- The partner takes the head of the result queue; with valid deasserted nothing is taken (R92). -/
def State.takeResult (s : State) (n : LaneIdx) : State :=
  s.setLane n { s.lane n with results := (s.lane n).results.tail }

/-- RESULT_TAKE (R92). -/
def execResultTake (n : LaneIdx) (s : State) : Host.Outcome State Fault Refusal :=
  .next (s.takeResult n)

/-! ### The arbiter (R96, R97) -/

/-- A lane is eligible while it has a request and its results and lookups in flight are below 8 (R96). -/
def State.laneEligible (s : State) (n : LaneIdx) : Bool :=
  !(s.lane n).requests.isEmpty && decide ((s.lane n).results.length + (s.lane n).inFlight < Config.laneDepth)

/-- A probe is waiting: accepted and not yet granted (R96). -/
def State.probeWaiting (s : State) : Bool :=
  match s.probe with
  | .waiting _ => true
  | _ => false

/-- The five positions of the arbiter: lanes 0 to 3 and the host probe (R97). -/
def State.eligible (s : State) (p : Fin 5) : Bool :=
  if h : p.val < 4 then s.laneEligible ⟨p.val, h⟩ else s.probeWaiting

/-- The lowest-numbered free context (R95). -/
def State.freeContext (s : State) : Option CtxIdx := (List.finRange 4).find? fun k => (s.context k).isNone

/-- The search order from the pointer, wrapping (R97). -/
def searchOrder (pointer : Fin 5) : List (Fin 5) := [pointer, pointer + 1, pointer + 2, pointer + 3, pointer + 4]

/-- The position the arbiter grants and the context it gives, when the three conditions of R96 hold. -/
def State.selected (s : State) : Option (Fin 5 × CtxIdx) :=
  if s.hold then none
  else match s.freeContext, (searchOrder s.pointer).find? s.eligible with
    | some k, some p => some (p, k)
    | _, _ => none

/-! ### Grants (R100, R107) -/

/-- What a grant reads from the map (R38): the kind, the revision (0 unless BOUND) and the slot to pin. -/
def State.snapshot (s : State) (c : Channel) : Binding × Half × Option SlotIdx :=
  match (s.entry c).binding with
  | .bound i => (.bound i, (s.entry c).revision, some i)
  | .unassigned => (.unassigned, 0#16, none)
  | .lost => (.lost, 0#16, none)

/-- A context becomes busy with a lookup, and the slot it reads, if any, is pinned (R14, R95). -/
def State.begin (s : State) (k : CtxIdx) (l : Lookup) : State :=
  let s1 := s.setContext k (some l)
  match l.pinned with
  | some i => s1.pin i
  | none => s1

/-- The grant of the request at the head of a lane's queue (R100). -/
def State.grantLane (s : State) (n : LaneIdx) (k : CtxIdx) : State :=
  match (s.lane n).requests with
  | [] => s
  | q :: rest =>
    let (binding, revision, pinned) := s.snapshot q.channel
    let l : Lookup :=
      { requester := .lane n, tag := q.tag, channel := q.channel, raw := q.raw, which := .active,
        binding := some binding, revision, pinned, drop := false }
    let s1 := s.setLane n { s.lane n with requests := rest, inFlight := (s.lane n).inFlight + 1 }
    { s1.begin k l with pointer := n.castSucc + 1 }

/-- LANE_GRANT (R100): the arbiter grants a lane when its search meets an eligible lane first. -/
def State.laneGrant (s : State) : State :=
  match s.selected with
  | some (p, k) => if h : p.val < 4 then s.grantLane ⟨p.val, h⟩ k else s
  | none => s

/-- LANE_GRANT (R100). -/
def execLaneGrant (s : State) : Host.Outcome State Fault Refusal :=
  .next (s.awake State.laneGrant)

/-- The entry of a STAGED probe still names the slot recorded at acceptance (R107). -/
def State.stillStaged (s : State) (p : ProbeRequest) : Option SlotIdx :=
  match s.findEdit p.channel, p.staged with
  | some e, some i => if e.slot = some i then some i else none
  | _, _ => none

/-- A probe's lookup begins: the pointer moves to lane 0, the probe is in flight (R107). -/
def State.beginProbe (s : State) (k : CtxIdx) (p : ProbeRequest) (binding : Option Binding) (revision : Half)
    (pinned : Option SlotIdx) : State :=
  { s.begin k { requester := .host, tag := 0#8, channel := p.channel, raw := p.raw, which := p.which, binding,
                revision, pinned, drop := false } with
    pointer := 0, probe := .inFlight }

/-- The grant of the waiting probe, or its withdrawal when a lapse has discarded its entry (R107). -/
def State.grantProbe (s : State) (k : CtxIdx) : State :=
  match s.probe with
  | .waiting p =>
    match p.which with
    | .active =>
      let (binding, revision, pinned) := s.snapshot p.channel
      s.beginProbe k p (some binding) revision pinned
    | .staged =>
      match s.stillStaged p with
      | some i => s.beginProbe k p none 0#16 (some i)
      | none =>
        { s with probe := .none, response := { s.response with status := .notInEdit, payload := [] } }
  | _ => s

/-- PROBE_GRANT (R107): the arbiter's search meets the waiting probe first. -/
def State.probeGrant (s : State) : State :=
  match s.selected with
  | some (p, k) => if p.val < 4 then s else s.grantProbe k
  | none => s

/-- PROBE_GRANT (R107). -/
def execProbeGrant (s : State) : Host.Outcome State Fault Refusal :=
  .next (s.awake State.probeGrant)

/-! ### Completions (R101, R108) -/

/-- The end of every lookup: the slot unpinned, the context free, and the drain of a load ended if this was the last
lookup in flight (R101, R103, R162). -/
def State.finish (s : State) (k : CtxIdx) (l : Lookup) : State :=
  let s1 :=
    match l.pinned with
    | some i => s.unpin i
    | none => s
  State.endDrain (s1.setContext k none)

/-- The completion of a lane lookup (R101): a dropped result raises nothing and is not queued (R104). -/
def State.completeLane (s : State) (k : CtxIdx) (l : Lookup) (n : LaneIdx) : State :=
  let r := lookupResult l s.slot
  let lane := s.lane n
  let s1 := if r.limitFlagged && !l.drop then s.raise l.channel limitBit else s
  let s2 := s1.setLane n { lane with results := if l.drop then lane.results else lane.results ++ [r],
                                     inFlight := lane.inFlight - 1 }
  s2.finish k l

/-- LANE_COMPLETION (R101) of the lookup in a context. -/
def State.laneCompletion (s : State) (k : CtxIdx) : State :=
  match s.context k with
  | some l =>
    match l.requester with
    | .lane n => s.completeLane k l n
    | .host => s
  | none => s

/-- LANE_COMPLETION (R101). -/
def execLaneCompletion (k : CtxIdx) (s : State) : Host.Outcome State Fault Refusal :=
  .next (s.awake fun s => s.laneCompletion k)

/-- The completion of a probe (R108): the result replaces status and payload of the buffer and ends the pending
state, unless a Restart dropped the probe (R110). -/
def State.completeProbe (s : State) (k : CtxIdx) (l : Lookup) : State :=
  let r := lookupResult l s.slot
  let s1 : State :=
    if l.drop then s
    else { s with probe := .none, response := { s.response with status := .ok, payload := resultBytes r } }
  s1.finish k l

/-- PROBE_COMPLETION (R108) of the lookup in a context. -/
def State.probeCompletion (s : State) (k : CtxIdx) : State :=
  match s.context k with
  | some l =>
    match l.requester with
    | .host => s.completeProbe k l
    | .lane _ => s
  | none => s

/-- PROBE_COMPLETION (R108). -/
def execProbeCompletion (k : CtxIdx) (s : State) : Host.Outcome State Fault Refusal :=
  .next (s.awake fun s => s.probeCompletion k)

/-! ### Probe (R105, R106) -/

/-- An accepted probe waits; the response is PENDING with an empty payload (R106). -/
def State.acceptProbe (s : State) (p : ProbeRequest) : Answer :=
  { state := { s with probe := .waiting p }, status := .pending, payload := [] }

/-- A staged list can be probed: at least 2 points, x strictly increasing (R105 check 5). -/
def probeReady (c : Content) : Bool := decide (2 ≤ c.points.length) && contentOrdered c

/-- Probe, its checks in the order of R105. -/
def probe (c : Channel) (raw : Half) (which : Byte) : State → Answer := unlessLoading fun s =>
  match whichOfCode which with
  | none => .refuse s .badParam
  | some .active => s.acceptProbe { channel := c, raw, which := .active, staged := none }
  | some .staged =>
    match s.findEdit c with
    | none => .refuse s .notInEdit
    | some e =>
      match e.slot with
      | none => .refuse s .wrongState
      | some i =>
        if probeReady (s.slot i).content then
          s.acceptProbe { channel := c, raw, which := .staged, staged := some i }
        else .refuse s .notReady

/-- PROBE (R105). -/
def execProbe (c : Channel) (raw : Half) (which : Byte) (s : State) : Host.Outcome State Fault Refusal :=
  .next (s.takeFrame .probe (probe c raw which))

end Sys2Proof.Machine
end

