-- ==== Sys2Proof/Machine/Reset.lean ====
section
/-! DEFINITION. The resets: power-on reset, pin reset, the end of a reset with the boot load, Restart, and the rise of
chip select after a reset (R24, R25, R160, R173, R201, R202). -/

namespace Sys2Proof.Machine

/-! ### Power-on reset and pin reset (R24, R202) -/

/-- What the store holds when a reset cuts a page write in progress: these bytes at its addresses, within what R153
allows; a read in progress leaves the store as it is (log entry 5). -/
def State.storeAfterCut (s : State) (torn : List Byte) : Mem :=
  match s.port with
  | some { address, kind := .write data, .. } => Mem.cutWrite s.store address (torn.take data.length)
  | _ => s.store

/-- Every block takes its reset value; the store's contents survive (R137). The queue of commands waiting is not the
device's. -/
def State.hardReset (s : State) (torn : List Byte) : State :=
  { State.reset with store := s.storeAfterCut torn, pending := s.pending }

/-- POWER_ON_RESET (R24). -/
def execPowerOnReset (torn : List Byte) (s : State) : Host.Outcome State Fault Refusal :=
  .next (s.hardReset torn)

/-- PIN_RESET (R202): the same effect as power-on reset. -/
def execPinReset (torn : List Byte) (s : State) : Host.Outcome State Fault Refusal :=
  .next (s.hardReset torn)

/-- The end of a reset (R160, R202): the device leaves reset, the receiver waits for chip select to be high if it is
low, and the boot load begins. Outside a reset there is no such event. -/
def State.bootLoad (s : State) (csLow : Bool) : State :=
  if s.held then State.startLoad { s with held := false, receiver := if csLow then .awaitHigh else .idle } else s

/-- BOOT_LOAD (R160). -/
def execBootLoad (csLow : Bool) (s : State) : Host.Outcome State Fault Refusal :=
  .next (s.bootLoad csLow)

/-- The rise of a chip select that fell during the reset: the receiver can begin new transactions (R202). -/
def State.chipSelectRise (s : State) : State := { s with receiver := .idle }

/-- CHIP_SELECT_RISE_AFTER_RESET (R202). -/
def execChipSelectRiseAfterReset (s : State) : Host.Outcome State Fault Refusal :=
  .next (s.awake State.chipSelectRise)

/-! ### Restart (R201) -/

/-- The drop mark is set on every lookup in flight (R104, R110). -/
def State.dropLookups (s : State) : State :=
  { s with contexts := tabulate fun k => (s.context k).map fun l => { l with drop := true } }

/-- Both queues of every lane are emptied; the in-flight counts are kept (R94). -/
def State.emptyLanes (s : State) : State :=
  { s with lanes := tabulate fun n => { Lane.blank with inFlight := (s.lane n).inFlight } }

/-- What Restart does to the operation in progress: a save is stopped (R155), a repair discarded without an outcome
(R187), a load begun again from its table clear unless it is still draining (R173). -/
def State.restartStore (s : State) : State :=
  match s.ctl with
  | .idle => s
  | .saving v => s.stopSave v
  | .repairing _ => { s.dropTransfer with ctl := .idle }
  | .loading l => if l.stage = .drain then s.endDrain else s.dropTransfer.beginHeaders

/-- The settings, the queues, the counters and the port as Restart leaves them, before what it does to the store
operation in progress (R201). -/
def State.restartBlocks (s : State) : State :=
  { s.emptyEdits.dropLookups.emptyLanes with
    pointer := 0, probe := .none, causes := 0#3, repairQueue := [], scrubPos := 0, scrubCount := 0, mismatches := 0,
    control := Control.default, counter := 0#8, response := Response.reset }

/-- Restart (R201): the table, part time, the reasons, the epoch and the last outcomes are kept. -/
def State.restart (s : State) : State := s.restartBlocks.restartStore

/-- RESTART (R201): taken as any frame is, and while a probe is pending too (R191). -/
def execRestart (s : State) : Host.Outcome State Fault Refusal :=
  .next (if s.portOpen then s.restart else s)

end Sys2Proof.Machine
end

