-- ==== Sys2Proof/Machine/Save.lean ====
section
/-! DEFINITION. Saving the table: Save, Stop Save, the events of a save, the finishing write (chapter 8). -/

namespace Sys2Proof.Machine

/-! ### Save and Stop Save (R147, R154) -/

/-- An accepted Save: SAVING in phase INVALIDATE, the epoch recorded, the first header read issued when the port is
free (R147). -/
def State.startSave (s : State) : State :=
  State.issueFirst
    { s with ctl := .saving { stage := .readA, epoch := s.epoch, last := none, rest := [], done := 0, written := [] } }

/-- Save, its checks in the order of R147. -/
def saveCommand (s : State) : Answer :=
  if !s.isIdle then .refuse s .storeBusy
  else if s.anySuspect then .refuse s .suspectPresent
  else { state := s.startSave, status := .accepted, payload := [] }

/-- SAVE (R147). -/
def execSave (s : State) : Host.Outcome State Fault Refusal :=
  .next (s.takeFrame .save saveCommand)

/-- Stop Save (R154): the save ends STOPPED; the response carries the phase and the body bytes completed. -/
def stopSaveCommand (s : State) : Answer :=
  match s.ctl with
  | .saving v => .ok (s.stopSave v) ([savePhaseCode v.stage.phase] ++ be32 (BitVec.ofNat 32 v.done))
  | _ => .refuse s .wrongState

/-- STOP_SAVE (R154). -/
def execStopSave (s : State) : Host.Outcome State Fault Refusal :=
  .next (s.takeFrame .stopSave stopSaveCommand)

/-! ### Phase INVALIDATE (R148) -/

/-- A header read of a save completes. After the second the target and the generation are chosen and the invalidating
write is issued at the target's first address (R148). -/
def State.saveHeaderRead (s : State) : State :=
  match s.ctl, s.readReply with
  | .saving v, some bytes =>
    match v.stage with
    | .readA =>
      State.issueHeaderRead { s with ctl := .saving { v with stage := .readB (parseHeader bytes) } } .b
    | .readB a =>
      let t := saveTarget a (parseHeader bytes)
      State.issue { s with ctl := .saving { v with stage := .invalidate t } } t.area.base
        (.write (List.replicate 4 0#8))
    | _ => s
  | _, _ => s

/-- SAVE_HEADER_READ_COMPLETION (R148). -/
def execSaveHeaderReadCompletion (s : State) : Host.Outcome State Fault Refusal :=
  .next (s.awake State.saveHeaderRead)

/-! ### Phase BODY (R149, R150) -/

/-- A page being assembled, with what remains of the record image in hand and the channels read. -/
structure Page where
  bytes   : List Byte
  rest    : List Byte
  last    : Option Channel
  written : List Channel
  deriving DecidableEq, Repr

/-- What an assembly event ends in: a page, or the channel of a damaged record with the slot whose mismatch this
event found; no slot when it was found before (R150). -/
inductive Assembled where
  | page (p : Page)
  | corrupt (c : Channel) (found : Option SlotIdx)
  deriving DecidableEq, Repr

/-- Fills a page from the records of these channels: each record is read whole, checked and its image formed when the
page still has room (R149). A bound slot that is not ACTIVE is not checked again and ends the save (R150). -/
def State.fillPage (s : State) : List Channel → Page → Assembled
  | [], p => .page p
  | c :: rest, p =>
    if Config.pageBytes ≤ p.bytes.length then .page p
    else match s.boundSlot c with
      | none => State.fillPage s rest p
      | some i =>
        let content := (s.slot i).content
        if (s.slot i).state ≠ .active then .corrupt c none
        else if !contentSound content then .corrupt c (some i)
        else
          let image := recordImage content
          let room := Config.pageBytes - p.bytes.length
          State.fillPage s rest { bytes := p.bytes ++ image.take room, rest := image.drop room, last := some c,
                                  written := p.written ++ [c] }

/-- The channels above the last one read, ascending (R149). -/
def channelsAbove : Option Channel → List Channel
  | none => List.finRange 256
  | some c => (List.finRange 256).filter fun d => decide (c < d)

/-- The page that this assembly event fills: first the bytes left of the current record image (R149). -/
def State.nextPage (s : State) (v : SaveState) : Assembled :=
  s.fillPage (channelsAbove v.last)
    { bytes := v.rest.take Config.pageBytes, rest := v.rest.drop Config.pageBytes, last := v.last, written := v.written }

/-- Phase HEADER begins: the first write carries the whole header with a zero marker (R151). -/
def State.beginHeader (s : State) (t : Target) (v : SaveState) : State :=
  State.issue { s with ctl := .saving { v with stage := .header t } } t.area.base
    (.write (headerImage t.generation v.epoch v.done v.written))

/-- An assembly event (R149, R150): the next page is issued, phase HEADER begins after the last, or the save ends
FAILED_CORRUPT with nothing issued. -/
def State.assemble (s : State) (t : Target) (v : SaveState) : State :=
  match s.nextPage v with
  | .corrupt c found =>
    State.endSave (match found with
      | some i => s.mismatch i
      | none => s) (.failedCorrupt c t.area v.done)
  | .page p =>
    if p.bytes.isEmpty then s.beginHeader t v
    else
      State.issue
        { s with ctl := .saving { v with stage := .body t, rest := p.rest, last := p.last, written := p.written } }
        (t.area.base + Config.pageBytes + v.done) (.write p.bytes)

/-- The invalidating write completes: the target is invalid, phase BODY begins with the first page (R148, R149). -/
def State.invalidateDone (s : State) : State :=
  match s.ctl, s.writeDone with
  | .saving v, some s1 =>
    match v.stage with
    | .invalidate t => s1.assemble t v
    | _ => s
  | _, _ => s

/-- INVALIDATE_WRITE_COMPLETION (R148). -/
def execInvalidateWriteCompletion (s : State) : Host.Outcome State Fault Refusal :=
  .next (s.awake State.invalidateDone)

/-- The bytes of the page write in progress. -/
def State.writeLength (s : State) : Nat :=
  match s.port with
  | some { kind := .write data, .. } => data.length
  | _ => 0

/-- A body page write completes: its length is added to the body bytes completed and the next page is assembled, or
phase HEADER begins (R149). -/
def State.bodyDone (s : State) : State :=
  match s.ctl, s.writeDone with
  | .saving v, some s1 =>
    match v.stage with
    | .body t => s1.assemble t { v with done := v.done + s.writeLength }
    | _ => s
  | _, _ => s

/-- BODY_WRITE_COMPLETION (R149). -/
def execBodyWriteCompletion (s : State) : Host.Outcome State Fault Refusal :=
  .next (s.awake State.bodyDone)

/-! ### Phase HEADER (R151) -/

/-- The first header write completes: the marker write is issued (R151). -/
def State.headerDone (s : State) : State :=
  match s.ctl, s.writeDone with
  | .saving v, some s1 =>
    match v.stage with
    | .header t =>
      State.issue { s1 with ctl := .saving { v with stage := .marker t } } t.area.base (.write markerBytes)
    | _ => s
  | _, _ => s

/-- HEADER_WRITE_COMPLETION (R151). -/
def execHeaderWriteCompletion (s : State) : Host.Outcome State Fault Refusal :=
  .next (s.awake State.headerDone)

/-- The marker write completes: the target is the newest valid image and the save ends DONE (R151, R152). -/
def State.markerDone (s : State) : State :=
  match s.ctl, s.writeDone with
  | .saving v, some s1 =>
    match v.stage with
    | .marker t => s1.endSave (.done t.area t.generation v.epoch v.written.length v.done)
    | _ => s
  | _, _ => s

/-- MARKER_WRITE_COMPLETION (R151). -/
def execMarkerWriteCompletion (s : State) : Host.Outcome State Fault Refusal :=
  .next (s.awake State.markerDone)

/-! ### Silence and the finishing write (R143, R144, R152) -/

/-- Any transfer of a save falls silent: FAILED_STORE (R152). -/
def State.saveSilent (s : State) (v : SaveState) : State :=
  s.endSave (.failedStore v.stage.phase v.stage.area v.done)

/-- The port becomes free after a finishing write: the first transfer that waited is issued (R144). -/
def State.portFreed (s : State) : State := State.issueDeferred { s with port := none }

/-- A finishing write completes: the bytes are in the store and the port becomes free (R142, R144). -/
def State.finishingDone (s : State) : State :=
  match s.port with
  | some { address, kind := .write data, finishing := true, .. } =>
    State.portFreed { s with store := Mem.writeBytes s.store address data }
  | _ => s

/-- FINISHING_WRITE_COMPLETION (R144). -/
def execFinishingWriteCompletion (s : State) : Host.Outcome State Fault Refusal :=
  .next (s.awake State.finishingDone)

/-- The first transfer that waited is issued when the port is free (R144). Within the end of a finishing write this
has happened already (log entry 8). -/
def State.deferredIssue (s : State) : State := s.issueDeferred

/-- DEFERRED_TRANSFER_ISSUE (R144). -/
def execDeferredTransferIssue (s : State) : Host.Outcome State Fault Refusal :=
  .next (s.awake State.deferredIssue)

end Sys2Proof.Machine
end

