-- ==== Sys2Proof/Machine/Repair.lean ====
section
/-! DEFINITION. The repair of one record from the newest valid image (chapter 10). -/

namespace Sys2Proof.Machine

/-- REPAIR_START (R181): taken when the controller is IDLE, the queue is not empty and repair enable is on. Within
the event that makes the conditions hold it has happened already (log entry 8). -/
def execRepairStart (s : State) : Host.Outcome State Fault Refusal :=
  .next (s.awake State.startRepair)

/-- The repair walk expects the next channel marked present at this offset (R183); with none left the repair ends
NOT_FOUND, which a chosen image that marks the target excludes (log entry 20). -/
def State.repairOn (s : State) (r : RepairState) (area : Area) (h : Header) (channels : List Channel) (offset : Nat) :
    State :=
  match channels with
  | [] => s.endRepair (.notFound r.target (some area))
  | c :: later =>
    let w : Walk := { area, header := h, expected := c, later, offset }
    State.issue { s with ctl := .repairing { r with stage := .head w } } w.address (.read 18)

/-- The choice after the second header (R182). -/
def State.repairChoose (s : State) (r : RepairState) (a b : Option Header) : State :=
  match newest a b with
  | none => s.endRepair (.notFound r.target none)
  | some (area, h) =>
    if h.presence.contains r.target then s.repairOn r area h h.presence 0
    else s.endRepair (.notFound r.target (some area))

/-- What follows when area A has been judged, and area B (R182). -/
def State.repairHeader (s : State) (r : RepairState) (found : Option Header) : State :=
  match r.stage with
  | .readA => State.issueHeaderRead { s with ctl := .repairing { r with stage := .readB found } } .b
  | .readB a => s.repairChoose r a found
  | _ => s

/-- The repair is reading a header. -/
def RepairStage.inHeaders : RepairStage → Bool
  | .readA | .readB _ => true
  | _ => false

/-- A header read of a repair completes (R182). -/
def State.repairHeaderRead (s : State) : State :=
  match s.ctl, s.readReply with
  | .repairing r, some bytes =>
    if r.stage.inHeaders then State.repairHeader { s with port := none } r (parseHeader bytes) else s
  | _, _ => s

/-- REPAIR_HEADER_READ_COMPLETION (R182). -/
def execRepairHeaderReadCompletion (s : State) : Host.Outcome State Fault Refusal :=
  .next (s.awake State.repairHeaderRead)

/-- A repair install (R185): the new slot with the SUSPECT slot's flag, the channel BOUND to it under its unchanged
revision, the SUSPECT slot superseded, SUSPECT replaced by REPAIRED (R127). -/
def State.repairInstall (s : State) (r : RepairState) (i : SlotIdx) (content : Content) : State :=
  let s1 : State :=
    { s.setSlot i (installedSlot content (s.slot r.slot).expired) with
      freeCells := s.freeCells - content.points.length }
  let s2 := (s1.setEntry r.target { binding := .bound i, revision := (s.entry r.target).revision }).release r.slot
  s2.setReasons r.target ((s.reasonsOf r.target &&& ~~~suspectBit) ||| repairedBit)

/-- The target's tail has been read: the five checks of R184 in order, and the install. -/
def State.repairTail (s : State) (r : RepairState) (w : Walk) (head tail : List Byte) : State :=
  let h := decodeHead head
  if imageCrc head tail ≠ h.crc ∨ fieldsValid head tail = false then s.endRepair (.notFound r.target (some w.area))
  else if s.boundSlot r.target ≠ some r.slot ∨ (s.slot r.slot).state ≠ .suspect then
    s.endRepair (.superseded r.target w.area)
  else if h.revision ≠ (s.entry r.target).revision then s.endRepair (.stale r.target w.area h.revision)
  else match s.room h.count with
    | none => s.endRepair (.noRoom r.target w.area)
    | some i =>
      (s.repairInstall r i (decodeRecord head tail)).endRepair (.installed r.target w.area h.revision i)

/-- A head of the walk has been read (R183): NOT_FOUND, stepped over, or the target's tail read issued; a tail of
0 bytes issues no transfer and completes at once. -/
def State.repairHead (s : State) (r : RepairState) (w : Walk) (head : List Byte) : State :=
  let h := decodeHead head
  if h.channel ≠ w.expected ∨ w.header.bodyLength < w.offset + h.size then
    s.endRepair (.notFound r.target (some w.area))
  else if h.channel < r.target then s.repairOn r w.area w.header w.later (w.offset + h.size)
  else if h.channel ≠ r.target then s.endRepair (.notFound r.target (some w.area))
  else if h.tailLength = 0 then s.repairTail r w head []
  else State.issue { s with ctl := .repairing { r with stage := .tail w head } } (w.address + 18) (.read h.tailLength)

/-- A head read of a repair completes (R183). -/
def State.repairHeadRead (s : State) : State :=
  match s.ctl, s.readReply with
  | .repairing r, some bytes =>
    match r.stage with
    | .head w => State.repairHead { s with port := none } r w bytes
    | _ => s
  | _, _ => s

/-- REPAIR_HEAD_READ_COMPLETION (R183). -/
def execRepairHeadReadCompletion (s : State) : Host.Outcome State Fault Refusal :=
  .next (s.awake State.repairHeadRead)

/-- The target's tail read completes (R184). -/
def State.repairTailRead (s : State) : State :=
  match s.ctl, s.readReply with
  | .repairing r, some bytes =>
    match r.stage with
    | .tail w head => State.repairTail { s with port := none } r w head bytes
    | _ => s
  | _, _ => s

/-- REPAIR_TAIL_READ_COMPLETION (R184). -/
def execRepairTailReadCompletion (s : State) : Host.Outcome State Fault Refusal :=
  .next (s.awake State.repairTailRead)

/-- A read of a repair falls silent: a header's area holds no valid image (R182); a head or tail ends the repair
STORE_FAULT (R186). -/
def State.repairSilent (s : State) (r : RepairState) : State :=
  match r.stage with
  | .readA | .readB _ => s.repairHeader r none
  | .head w | .tail w _ => s.endRepair (.storeFault r.target w.area)

end Sys2Proof.Machine
end

