-- ==== Sys2Proof/Machine/Tick.lean ====
section
/-! DEFINITION. The time base and what it paces: the millisecond tick, the seconds tick, the lease, the expiry sweep,
the scrub step, the silence timers; Set Time; upsets (chapters 6, 3, 10, 8 and 1).

A millisecond tick is one event (R112): when it makes the count wrap it is a seconds tick (R113), which may be a lease
lapse (R65); when it brings the step timer to S it is a step expiry (R174); when it is the 25th of a transfer it is
that transfer's silence (R143). The rows SECONDS_TICK, LEASE_LAPSE, STEP_EXPIRY and the silences name such a tick, and
each is taken only when the tick it names is due (log entry 7). -/

namespace Sys2Proof.Machine

/-! ### The seconds tick (R113) -/

/-- Part time plus 1, saturating at 4294967295 (R111). -/
def nextSecond (t : Word) : Word := if t = 0xFFFFFFFF#32 then t else t + 1#32

/-- The lease timer takes a seconds tick; the tick that brings k to L is a lapse (R65). With L = 1 that is the first
tick after a restart (R65), where R66 has the tick after a restart not lapse: the model's choice, log entry 27. -/
def State.leaseTick (s : State) : State :=
  match s.lease with
  | .counting l k => if k + 1 = l.toNat then s.emptyEdits.latch leaseLapsedBit else { s with lease := .counting l (k + 1) }
  | .stopped | .untimed => s

/-- A seconds tick in its three places: part time, the lease timer, the expiry sweep against the advanced part time
(R113). -/
def State.secondsTick (s : State) : State :=
  State.sweep (State.leaseTick { s with partTime := nextSecond s.partTime, msCount := 0 })

/-- The next millisecond tick wraps the count (R112). -/
def State.secondDue (s : State) : Bool := decide (999 ≤ s.msCount)

/-- The time base's part of a millisecond tick (R112). -/
def State.timeTick (s : State) : State :=
  if s.secondDue then s.secondsTick else { s with msCount := s.msCount + 1 }

/-! ### The silence timer (R143) -/

/-- The next millisecond tick is the 25th of the transfer in progress. -/
def Transfer.silenceDue (t : Transfer) : Bool := decide (Config.silenceTicks ≤ t.ticks + 1)

/-- What the store holds after a transfer fell silent: a page write may have been taken or not (R148). -/
def State.afterSilence (s : State) (t : Transfer) (took : Bool) : State :=
  match t.kind with
  | .read _ => { s with port := none }
  | .write data => { s with port := none, store := if took then Mem.cutWrite s.store t.address data else s.store }

/-- The operation whose transfer fell silent is told (R143); a finishing write belongs to none (R144). -/
def State.silence (s : State) (t : Transfer) (took : Bool) : State :=
  let s1 := s.afterSilence t took
  if t.finishing then s1.portFreed
  else match s1.ctl with
    | .saving v => s1.saveSilent v
    | .loading l => s1.loadSilent l
    | .repairing r => s1.repairSilent r
    | .idle => s1

/-- The silence timer takes a millisecond tick (R143). -/
def State.portTick (s : State) (took : Bool) : State :=
  match s.port with
  | none => s
  | some t => if t.silenceDue then s.silence t took else { s with port := some { t with ticks := t.ticks + 1 } }

/-! ### The scrub (R174, R175) -/

/-- The slots in the order a scrub step searches them: ascending from the position, wrapping (R175). -/
def scrubOrder (pos : Fin 128) : List SlotIdx := (List.finRange 128).map fun i => pos + i

/-- The scrub check: the first ACTIVE slot from the position is content-checked, and the position becomes the slot's
number plus 1 (R175); a mismatch may start a repair (R176). -/
def State.scrubCheck (s : State) : State :=
  match (scrubOrder s.scrubPos).find? fun i => (s.slot i).state == .active with
  | none => s
  | some i =>
    let s1 := { s with scrubPos := i + 1 }
    if contentSound (s.slot i).content then s1 else (s1.mismatch i).startRepair

/-- The next millisecond tick is a step expiry (R174); with S = 0 none is. -/
def State.stepDue (s : State) : Bool := s.control.step != 0#8 && decide (s.control.step.toNat ≤ s.scrubCount + 1)

/-- The step timer takes a millisecond tick (R174). -/
def State.scrubTick (s : State) : State :=
  if s.control.step = 0#8 then { s with scrubCount := 0 }
  else if s.stepDue then State.scrubCheck { s with scrubCount := 0 }
  else { s with scrubCount := s.scrubCount + 1 }

/-! ### The tick and the rows that name it -/

/-- A millisecond tick, whole: time base, silence timer, scrub monitor (R112, R143, R174); their order within the event
is log entry 7. No tick is issued while the device is held in reset (R160). -/
def State.tick (s : State) (took : Bool) : State := s.awake fun s => ((s.timeTick).portTick took).scrubTick

/-- MILLISECOND_TICK (R112). -/
def execMillisecondTick (took : Bool) (s : State) : Host.Outcome State Fault Refusal :=
  .next (s.tick took)

/-- SECONDS_TICK (R113): the millisecond tick that wraps the count. -/
def execSecondsTick (took : Bool) (s : State) : Host.Outcome State Fault Refusal :=
  .next (if s.secondDue then s.tick took else s)

/-- The next seconds tick lapses the lease (R65). -/
def State.lapseDue (s : State) : Bool :=
  match s.lease with
  | .counting l k => decide (k + 1 = l.toNat)
  | .stopped | .untimed => false

/-- LEASE_LAPSE (R65): the seconds tick that brings the count to the lease in force. -/
def execLeaseLapse (took : Bool) (s : State) : Host.Outcome State Fault Refusal :=
  .next (if s.secondDue && s.lapseDue then s.tick took else s)

/-- STEP_EXPIRY (R175): the millisecond tick that brings the step timer to S. -/
def execStepExpiry (took : Bool) (s : State) : Host.Outcome State Fault Refusal :=
  .next (if s.stepDue then s.tick took else s)

/-- The next millisecond tick is the silence of the operation's own transfer, of a finishing write when `finishing`. -/
def State.silenceDue (s : State) (finishing : Bool) : Bool :=
  match s.port with
  | some t => t.silenceDue && t.finishing == finishing
  | none => false

/-- SAVE_STORE_SILENCE (R152): the 25th tick of a transfer of a save. -/
def execSaveStoreSilence (took : Bool) (s : State) : Host.Outcome State Fault Refusal :=
  .next (if s.isSaving && s.silenceDue false then s.tick took else s)

/-- FINISHING_WRITE_SILENCE (R144): the 25th tick of a finishing write. -/
def execFinishingWriteSilence (took : Bool) (s : State) : Host.Outcome State Fault Refusal :=
  .next (if s.silenceDue true then s.tick took else s)

/-- A load is reading a header. -/
def State.loadInHeaders (s : State) : Bool :=
  match s.ctl with
  | .loading l => l.stage.inHeaders
  | _ => false

/-- LOAD_HEADER_SILENCE (R164): the 25th tick of a load's header read. -/
def execLoadHeaderSilence (s : State) : Host.Outcome State Fault Refusal :=
  .next (if s.loadInHeaders && s.silenceDue false then s.tick false else s)

/-- A load is in its body walk. -/
def State.loadInWalk (s : State) : Bool :=
  match s.ctl with
  | .loading { stage := .head _, .. } => true
  | .loading { stage := .tail _ _, .. } => true
  | _ => false

/-- LOAD_WALK_SILENCE (R170): the 25th tick of a head or tail read of a load. -/
def execLoadWalkSilence (s : State) : Host.Outcome State Fault Refusal :=
  .next (if s.loadInWalk && s.silenceDue false then s.tick false else s)

/-- A repair is in progress. -/
def State.isRepairing (s : State) : Bool :=
  match s.ctl with
  | .repairing _ => true
  | _ => false

/-- REPAIR_STORE_SILENCE (R182, R186): the 25th tick of a read of a repair. -/
def execRepairStoreSilence (s : State) : Host.Outcome State Fault Refusal :=
  .next (if s.isRepairing && s.silenceDue false then s.tick false else s)

/-! ### Set Time (R114) -/

/-- Set Time: part time, the millisecond count, a sweep; the response carries the previous and the new part time and
the number of slots this sweep flagged. -/
def setTime (seconds : Word) (s : State) : Answer :=
  let s1 := { s with partTime := seconds, msCount := 0 }
  .ok s1.sweep (be32 s.partTime ++ be32 seconds ++ [byteOf s1.fallingCount])

/-- SET_TIME (R114). -/
def execSetTime (seconds : Word) (s : State) : Host.Outcome State Fault Refusal :=
  .next (s.takeFrame .setTime (setTime seconds))

/-! ### Upset (R19) -/

/-- An upset leaves this content in the slot: a FREE slot holds none; the number of points does not change; each field
holds one of its stated values (R19, R44). DEDUCED: the label is such a field, so an upset may leave it with another
length of 0 to 15, though R19 lists the label's characters alone. Anything else is no upset, and changes nothing (log
entry 22). -/
def State.upset (s : State) (i : SlotIdx) (content : Content) : State :=
  if (s.slot i).state ≠ .free ∧ content.points.length = (s.slot i).content.points.length ∧ content.stated = true then
    s.setSlot i { s.slot i with content }
  else s

/-- UPSET (R19). -/
def execUpset (i : SlotIdx) (content : Content) (s : State) : Host.Outcome State Fault Refusal :=
  .next (s.upset i content)

end Sys2Proof.Machine
end

