-- ==== Sys2Proof/Machine/Transactions.lean ====
section
/-! DEFINITION. The transactions of the SPI port (R188 to R193): command writes with the frame checks and the dispatch,
frame errors, response reads, ignored transactions. -/

namespace Sys2Proof.Machine

/-- The dispatcher: a command that a frame carries is handed to its owner (section 11.3). A row that no frame carries
is never decoded from one. -/
def runCommand (i : Instr) (s : State) : Host.Outcome State Fault Refusal :=
  match i with
  | .openEdit c kind => execOpenEdit c kind s
  | .setFields c f => execSetFields c f s
  | .setLabel c label => execSetLabel c label s
  | .putPoints c start points => execPutPoints c start points s
  | .trimPoints c count => execTrimPoints c count s
  | .dropEdit c => execDropEdit c s
  | .abandon => execAbandon s
  | .commit => execCommit s
  | .readEditSet start => execReadEditSet start s
  | .probe c raw which => execProbe c raw which s
  | .readMapEntry c => execReadMapEntry c s
  | .readRecord c which => execReadRecord c which s
  | .readPoints c which start count => execReadPoints c which start count s
  | .setTime seconds => execSetTime seconds s
  | .readAttention start => execReadAttention start s
  | .clearReasons c selection => execClearReasons c selection s
  | .clearCauses selection => execClearCauses selection s
  | .save => execSave s
  | .stopSave => execStopSave s
  | .reload => execReload s
  | .setControl selection values => execSetControl selection values s
  | .readControl => execReadControl s
  | .readStatus => execReadStatus s
  | .readIdentity => execReadIdentity s
  | .restart => execRestart s
  | _ => .next s

/-- The command event of a command write (R189): 00h was shifted out for every byte (R188); then the frame checks, and
the frame error, the refusal of the payload's length, or the command. -/
def State.commandWrite (s : State) (bytes : List Byte) : Host.Outcome State Fault Refusal :=
  let s1 := { s with sdo := List.replicate (bytes.length + 1) 0#8 }
  match checkFrame bytes with
  | .bad code e => .next (s1.takeFrameError code e)
  | .good k payload =>
    match decodePayload k payload with
    | none => .next (s1.takeBadLength k)
    | some i => runCommand i s1

/-- COMMAND_WRITE (R189). The port takes no transaction while the device is held in reset, nor one whose chip select
fell during the reset (R202). -/
def execCommandWrite (bytes : List Byte) (s : State) : Host.Outcome State Fault Refusal :=
  if s.portOpen then s.commandWrite bytes else .next s

/-- FRAME_ERROR (R190). -/
def execFrameError (code : Option Byte) (e : FrameError) (s : State) : Host.Outcome State Fault Refusal :=
  .next (s.takeFrameError code e)

/-- The bytes shifted out after 3Ch when the host clocks this many: the copy of the buffer with its CRC, then 00h
(R193). -/
def State.readOut (s : State) (clocked : Nat) : List Byte :=
  (responseBytes s.response ++ List.replicate clocked 0#8).take clocked

/-- RESPONSE_READ (R193): it changes no state but the bytes on SDO (log entry 11). -/
def execResponseRead (clocked : Nat) (s : State) : Host.Outcome State Fault Refusal :=
  .next (if s.portOpen then { s with sdo := s.readOut clocked } else s)

/-- The first byte selects neither a command write nor a response read, or no whole byte was shifted (R188). -/
def ignoredBytes : List Byte → Bool
  | [] => true
  | b :: _ => b != 0xC3#8 && b != 0x3C#8

/-- IGNORED_TRANSACTION (R188): FFh is shifted out for every byte and no state changes. What is shifted out during a
transaction whose chip select fell in a reset R202 leaves open; the record of SDO then stays as it was, the model's choice
(log entry 11). -/
def execIgnoredTransaction (bytes : List Byte) (s : State) : Host.Outcome State Fault Refusal :=
  .next (if s.portOpen && ignoredBytes bytes then { s with sdo := List.replicate bytes.length 0xFF#8 } else s)

end Sys2Proof.Machine
end

