-- ==== Sys2Proof/Machine/Dispatch.lean ====
section
/-! DEFINITION. Which meaning each row of spec/opcode_table.json has: one arm per constructor of `Instr`. -/

namespace Sys2Proof.Machine

def exec (i : Instr) (s : State) : Host.Outcome State Fault Refusal :=
  match i with
  | .powerOnReset torn => Sys2Proof.Machine.execPowerOnReset torn s
  | .pinReset torn => Sys2Proof.Machine.execPinReset torn s
  | .bootLoad csLow => Sys2Proof.Machine.execBootLoad csLow s
  | .commandWrite bytes => Sys2Proof.Machine.execCommandWrite bytes s
  | .frameError code err => Sys2Proof.Machine.execFrameError code err s
  | .responseRead clocked => Sys2Proof.Machine.execResponseRead clocked s
  | .ignoredTransaction bytes => Sys2Proof.Machine.execIgnoredTransaction bytes s
  | .openEdit channel kind => Sys2Proof.Machine.execOpenEdit channel kind s
  | .setFields channel fields => Sys2Proof.Machine.execSetFields channel fields s
  | .setLabel channel label => Sys2Proof.Machine.execSetLabel channel label s
  | .putPoints channel start points => Sys2Proof.Machine.execPutPoints channel start points s
  | .trimPoints channel count => Sys2Proof.Machine.execTrimPoints channel count s
  | .dropEdit channel => Sys2Proof.Machine.execDropEdit channel s
  | .abandon => Sys2Proof.Machine.execAbandon s
  | .commit => Sys2Proof.Machine.execCommit s
  | .readEditSet start => Sys2Proof.Machine.execReadEditSet start s
  | .probe channel raw which => Sys2Proof.Machine.execProbe channel raw which s
  | .readMapEntry channel => Sys2Proof.Machine.execReadMapEntry channel s
  | .readRecord channel which => Sys2Proof.Machine.execReadRecord channel which s
  | .readPoints channel which start count => Sys2Proof.Machine.execReadPoints channel which start count s
  | .setTime seconds => Sys2Proof.Machine.execSetTime seconds s
  | .readAttention start => Sys2Proof.Machine.execReadAttention start s
  | .clearReasons channel selection => Sys2Proof.Machine.execClearReasons channel selection s
  | .clearCauses selection => Sys2Proof.Machine.execClearCauses selection s
  | .save => Sys2Proof.Machine.execSave s
  | .stopSave => Sys2Proof.Machine.execStopSave s
  | .reload => Sys2Proof.Machine.execReload s
  | .setControl selection values => Sys2Proof.Machine.execSetControl selection values s
  | .readControl => Sys2Proof.Machine.execReadControl s
  | .readStatus => Sys2Proof.Machine.execReadStatus s
  | .readIdentity => Sys2Proof.Machine.execReadIdentity s
  | .restart => Sys2Proof.Machine.execRestart s
  | .requestArrival lane word => Sys2Proof.Machine.execRequestArrival lane word s
  | .resultTake lane => Sys2Proof.Machine.execResultTake lane s
  | .laneGrant => Sys2Proof.Machine.execLaneGrant s
  | .probeGrant => Sys2Proof.Machine.execProbeGrant s
  | .laneCompletion ctx => Sys2Proof.Machine.execLaneCompletion ctx s
  | .probeCompletion ctx => Sys2Proof.Machine.execProbeCompletion ctx s
  | .millisecondTick took => Sys2Proof.Machine.execMillisecondTick took s
  | .secondsTick took => Sys2Proof.Machine.execSecondsTick took s
  | .leaseLapse took => Sys2Proof.Machine.execLeaseLapse took s
  | .stepExpiry took => Sys2Proof.Machine.execStepExpiry took s
  | .upset slot content => Sys2Proof.Machine.execUpset slot content s
  | .saveHeaderReadCompletion => Sys2Proof.Machine.execSaveHeaderReadCompletion s
  | .invalidateWriteCompletion => Sys2Proof.Machine.execInvalidateWriteCompletion s
  | .bodyWriteCompletion => Sys2Proof.Machine.execBodyWriteCompletion s
  | .headerWriteCompletion => Sys2Proof.Machine.execHeaderWriteCompletion s
  | .markerWriteCompletion => Sys2Proof.Machine.execMarkerWriteCompletion s
  | .saveStoreSilence took => Sys2Proof.Machine.execSaveStoreSilence took s
  | .finishingWriteCompletion => Sys2Proof.Machine.execFinishingWriteCompletion s
  | .finishingWriteSilence took => Sys2Proof.Machine.execFinishingWriteSilence took s
  | .deferredTransferIssue => Sys2Proof.Machine.execDeferredTransferIssue s
  | .tableClear => Sys2Proof.Machine.execTableClear s
  | .loadHeaderReadCompletion => Sys2Proof.Machine.execLoadHeaderReadCompletion s
  | .loadHeaderSilence => Sys2Proof.Machine.execLoadHeaderSilence s
  | .loadHeadReadCompletion => Sys2Proof.Machine.execLoadHeadReadCompletion s
  | .loadTailReadCompletion => Sys2Proof.Machine.execLoadTailReadCompletion s
  | .loadWalkSilence => Sys2Proof.Machine.execLoadWalkSilence s
  | .repairStart => Sys2Proof.Machine.execRepairStart s
  | .repairHeaderReadCompletion => Sys2Proof.Machine.execRepairHeaderReadCompletion s
  | .repairHeadReadCompletion => Sys2Proof.Machine.execRepairHeadReadCompletion s
  | .repairTailReadCompletion => Sys2Proof.Machine.execRepairTailReadCompletion s
  | .repairStoreSilence => Sys2Proof.Machine.execRepairStoreSilence s
  | .chipSelectRiseAfterReset => Sys2Proof.Machine.execChipSelectRiseAfterReset s

end Sys2Proof.Machine
end

