-- ==== Sys2Proof/Safety.lean ====
section
/-! DEFINITION. What counts as a safe run of the V128: the laws that the manual states of every state the device can
be in, and the words the statements use about the host port. -/

namespace Sys2Proof

/-- The command is one that a command frame carries (section 12.2). -/
def Instr.isCommand (i : Instr) : Bool := (encodePayload i).isSome

/-- The row is a transaction of the SPI port (R188). -/
def Instr.isTransaction : Instr → Bool
  | .commandWrite _ | .frameError _ _ | .responseRead _ | .ignoredTransaction _ => true
  | _ => false

end Sys2Proof

namespace Sys2Proof.Machine

/-! ### The host port -/

/-- A command frame is heard and not refused: out of reset, chip select seen high since, no probe pending (R191,
R202). -/
def State.hears (s : State) : Prop := s.held = false ∧ s.receiver = .idle ∧ s.probe = .none

/-- What a taken command leaves at the port: the counter increased, and the buffer replaced by this status, the
command's code, the new counter, REFUSED_FRAME clear and this payload (R191). -/
def State.answered (s : State) (k : CommandCode) (st : Status) (payload : List Byte) : State :=
  { s with
    counter := s.counter + 1#8
    response := { status := st, echo := codeByte k, counter := s.counter + 1#8, refused := false, payload } }

/-- The lease timer after a restart (R63). -/
def State.freshLease (s : State) : LeaseTimer :=
  if s.control.lease = 0#8 then .untimed else .counting s.control.lease 0

/-- The slot is the lowest-numbered FREE one (R8). -/
def State.isLowestFree (s : State) (i : SlotIdx) : Prop :=
  (s.slot i).state = .free ∧ ∀ j < i, (s.slot j).state ≠ .free

/-- The position of the arbiter may be granted (R96): a lane with a request and room for its result, or the host with a
probe waiting. -/
def State.mayBeGranted (s : State) (p : Fin 5) : Prop :=
  (∃ n : LaneIdx, p = n.castSucc ∧ (s.lane n).requests ≠ [] ∧ (s.lane n).results.length + (s.lane n).inFlight < 8) ∨
    (p = 4 ∧ ∃ q, s.probe = .waiting q)

/-- The arbiter's next grant goes to this position and this context (R95, R96, R97): the hold is clear, the context is
the lowest free one, and the position is the first from the pointer that may be granted. -/
def State.grants (s : State) (p : Fin 5) (k : CtxIdx) : Prop :=
  s.hold = false ∧ s.context k = none ∧ (∀ j < k, s.context j ≠ none) ∧
    ∃ d : Fin 5, p = s.pointer + d ∧ s.mayBeGranted p ∧ ∀ e < d, ¬ s.mayBeGranted (s.pointer + e)

/-- No repair can start: nothing is queued, or repair enable is off (R146). -/
def State.noRepairWaits (s : State) : Prop := s.repairQueue = [] ∨ s.control.repairEnable = false

/-- The next millisecond tick is no seconds tick, no silence and no scrub step (R112, R143, R174). -/
def State.quietTick (s : State) : Prop :=
  s.msCount < 999 ∧ (∀ t ∈ s.port, t.ticks < 24) ∧ (s.control.step = 0#8 ∨ s.scrubCount + 1 < s.control.step.toNat)

/-- What the port holds once an operation's first transfer, the read of area A's header, is due: that read, or the
finishing write it still waits for (R144). -/
def State.portWithFirstRead (s : State) : Option Transfer :=
  match s.port with
  | none => some { address := 0, kind := .read 64, finishing := false, ticks := 0 }
  | some t => some t

/-- What the port holds when the operation its transfer belongs to ends early (R144): a read is abandoned, a page write goes
on as a finishing write, and a finishing write stays one. -/
def State.portLeft (s : State) : Option Transfer :=
  match s.port with
  | none => none
  | some t =>
    if t.finishing then some t
    else match t.kind with
      | .read _ => none
      | .write _ => some { t with finishing := true }

/-- The state once the repair that waits has started (R146, R181): where the controller is IDLE, repair enable on and the
head of the queue BOUND, the head leaves the queue, its repair begins and the read of area A's header is due. Elsewhere
no repair starts. -/
def State.withRepair (s : State) : State :=
  match s.ctl, s.repairQueue with
  | .idle, c :: rest =>
    match (s.entry c).binding with
    | .bound i =>
      if s.control.repairEnable then
        { s with
          repairQueue := rest, ctl := .repairing { target := c, slot := i, stage := .readA }
          port := s.portWithFirstRead }
      else s
    | .unassigned | .lost => s
  | _, _ => s

/-- The table as a load's clear leaves it, with phase HEADERS begun (R163). -/
def State.cleared (s : State) : State :=
  { s with
    map := Vector.replicate 256 { binding := .unassigned, revision := 0#16 }
    slots := Vector.replicate 128 Slot.blank
    freeCells := 2048
    reasons := Vector.replicate 256 0#5
    repairQueue := []
    ctl := .loading { stage := .readA, installed := 0, lost := 0 }
    port := s.portWithFirstRead }

/-- These channels are LOST with revision 0 and hold LOST, and no other entry or reason has changed (R166, R169). -/
def State.lostOnly (s t : State) (cs : List Channel) : Prop :=
  (∀ c ∈ cs, t.entry c = { binding := .lost, revision := 0#16 } ∧ t.reasonsOf c = s.reasonsOf c ||| 0b10000#5) ∧
    ∀ c, c ∉ cs → t.entry c = s.entry c ∧ t.reasonsOf c = s.reasonsOf c

/-- The operation's own read in progress, with the bytes its completion hands over (R142). -/
def State.reads (s : State) (bytes : List Byte) : Prop :=
  ∃ t n, s.port = some t ∧ t.finishing = false ∧ t.kind = .read n ∧ bytes = Mem.readBytes s.store t.address n

/-- The operation's own page write in progress, and the store once it completes. -/
def State.writes (s : State) (data : List Byte) (store : List Host.Cell) : Prop :=
  ∃ t, s.port = some t ∧ t.finishing = false ∧ t.kind = .write data ∧ store = Mem.writeBytes s.store t.address data

/-- The next millisecond tick is the 25th of the operation's own transfer in progress, and no second and no scrub step
(R112, R143, R174). -/
def State.silentTick (s : State) (t : Transfer) : Prop :=
  s.held = false ∧ s.port = some t ∧ t.ticks = 24 ∧ s.msCount < 999 ∧
    (s.control.step = 0#8 ∨ s.scrubCount + 1 < s.control.step.toNat)

/-- The state after the counting of such a tick, with the port free. -/
def State.ticked (s : State) : State :=
  { s with
    msCount := s.msCount + 1, port := none
    scrubCount := if s.control.step = 0#8 then 0 else s.scrubCount + 1 }

/-- The slot after a completion has unpinned it (R14, R15): FREE when it was DRAINING and this was its last pin. -/
def Slot.unpinned (sl : Slot) : Slot :=
  if sl.state = .draining ∧ sl.pins ≤ 1 then Slot.blank else { sl with pins := sl.pins - 1 }

/-- The slot after its record is superseded or discarded (R11, R13). -/
def Slot.released (sl : Slot) : Slot := if sl.pins = 0 then Slot.blank else { sl with state := .draining }

/-- The bytes of the body that a save has still to put into pages (R149): the rest of the current record image, then the
images of the BOUND channels above the last one read. -/
def State.bodyLeft (s : State) (v : SaveState) : List Byte :=
  v.rest ++ (channelsAbove v.last).flatMap fun c =>
    match s.boundSlot c with
    | some i => recordImage (s.slot i).content
    | none => []

/-- The BOUND channels above the last one a save read. -/
def State.channelsLeft (s : State) (last : Option Channel) : List Channel :=
  (channelsAbove last).filter fun c => (s.boundSlot c).isSome

/-- Every record that a save has still to read is ACTIVE and passes its content check (R149). -/
def State.bodySound (s : State) (v : SaveState) : Prop :=
  ∀ c ∈ channelsAbove v.last, ∀ i, s.boundSlot c = some i →
    (s.slot i).state = .active ∧ contentSound (s.slot i).content = true

/-! ### The record store (chapter 1) -/

/-- The slot is the slot of a BOUND entry: ACTIVE or SUSPECT (R1). -/
def SlotState.installed : SlotState → Bool
  | .active | .suspect => true
  | .free | .staged | .draining => false

/-- How many BOUND map entries name a slot. -/
def State.boundCount (s : State) (i : SlotIdx) : Nat := (List.finRange 256).countP fun c => s.boundSlot c == some i

/-- How many edit entries name a slot. -/
def State.editCount (s : State) (i : SlotIdx) : Nat := s.edits.countP fun e => e.slot == some i

/-- The slot a context's lookup pins. -/
def State.pinnedBy (s : State) (k : CtxIdx) : Option SlotIdx := (s.context k).bind Lookup.pinned

/-- How many lookup contexts hold a slot (R14). -/
def State.pinCount (s : State) (i : SlotIdx) : Nat := (List.finRange 4).countP fun k => s.pinnedBy k == some i

/-- The point counts of all slots together (R20). -/
def State.cellsUsed (s : State) : Nat := ((List.finRange 128).map fun i => (s.slot i).content.points.length).sum

/-- R1: every ACTIVE or SUSPECT slot is the slot of exactly one BOUND entry, and no other slot is named by one. -/
def State.bindingLaw (s : State) : Prop :=
  ∀ i, s.boundCount i = if (s.slot i).state.installed then 1 else 0

/-- R9, R47: every STAGED slot belongs to exactly one entry and no other slot to any; RETIRE entries have none; no two
entries name one channel; at most 16. -/
def State.editLaw (s : State) : Prop :=
  (∀ i, s.editCount i = if (s.slot i).state = .staged then 1 else 0) ∧
    (∀ e ∈ s.edits, e.kind = .retire ↔ e.slot = none) ∧
    (s.edits.map Entry.channel).Nodup ∧ s.edits.length ≤ Config.maxEdits

/-- R14, R15, R17: a slot's pin count is the number of contexts that hold it; a DRAINING slot has one; a FREE slot has
no pin, no flag and no content; a STAGED slot's flag is clear (R9). -/
def State.pinLaw (s : State) : Prop :=
  ∀ i, (s.slot i).pins = s.pinCount i ∧ ((s.slot i).state = .draining → 1 ≤ (s.slot i).pins) ∧
    ((s.slot i).state = .free → s.slot i = Slot.blank) ∧ ((s.slot i).state = .staged → (s.slot i).expired = false)

/-- R20: the free cells and the point counts of all slots make 2048. -/
def State.cellLaw (s : State) : Prop := s.freeCells + s.cellsUsed = Config.poolCells

/-- The channels that a header marks are all different. -/
def Header.sound (h : Header) : Prop := h.presence.Nodup

/-- The channels a walk has still to read are all different and not BOUND. -/
def State.walkLaw (s : State) (w : Walk) : Prop :=
  (w.expected :: w.later).Nodup ∧ ∀ c ∈ w.expected :: w.later, s.boundSlot c = none

/-- R103, R162, R163, R172: no entry is open during a load; from its table clear on no lookup is in flight, and what the
load still has to install is not yet BOUND. -/
def State.loadLaw (s : State) : Prop :=
  match s.ctl with
  | .loading l =>
    s.edits = [] ∧ (l.stage = .drain ∨ ∀ k, s.context k = none) ∧
      match l.stage with
      | .drain => True
      | .readA => ∀ c, s.boundSlot c = none
      | .readB a => (∀ c, s.boundSlot c = none) ∧ ∀ h ∈ a, h.sound
      | .head w => s.walkLaw w
      | .tail w head => s.walkLaw w ∧ (decodeHead head).channel = w.expected
  | .idle | .saving _ | .repairing _ => True

/-- R98: the engine hold is set exactly while a load is in progress. -/
def State.holdLaw (s : State) : Prop := s.hold = s.isLoading

/-- R145: while the device is held in reset the controller is LOADING (log entry 1), so that the boot load that ends the
reset meets what a load meets. -/
def State.heldLaw (s : State) : Prop := s.held = true → s.isLoading = true

/-- The law of the record store: what chapter 1 says holds in every state. -/
def State.tableLaw (s : State) : Prop :=
  s.bindingLaw ∧ s.editLaw ∧ s.pinLaw ∧ s.cellLaw ∧ s.loadLaw ∧ s.holdLaw

/-! ### The edit controller, the lanes, the time base, the queue, the port -/

/-- R63, R64: the lease timer is STOPPED exactly while the set is EMPTY, and a count lies below its lease. -/
def State.leaseLaw (s : State) : Prop :=
  (s.lease = .stopped ↔ s.edits = []) ∧
    match s.lease with
    | .counting l k => k < l.toNat
    | .stopped | .untimed => True

/-- The lookups in flight of a lane: the contexts that record it as requester (R95). -/
def State.laneContexts (s : State) (n : LaneIdx) : Nat :=
  (List.finRange 4).countP fun k => (s.context k).any fun l => l.requester == .lane n

/-- R89: the in-flight count counts the lane's lookups; results and lookups together, and requests, are at most 8. -/
def State.laneLaw (s : State) : Prop :=
  ∀ n, (s.lane n).inFlight = s.laneContexts n ∧ (s.lane n).results.length + (s.lane n).inFlight ≤ Config.laneDepth ∧
    (s.lane n).requests.length ≤ Config.laneDepth

/-- R112, R143, R174: the millisecond count, the silence timer and the step timer stay below their ends. -/
def State.timerLaw (s : State) : Prop :=
  s.msCount < 1000 ∧ (∀ t ∈ s.port, t.ticks < Config.silenceTicks) ∧
    (s.scrubCount = 0 ∨ s.scrubCount < s.control.step.toNat)

/-- R195: every threshold lies in 1 to 8. -/
def State.controlLaw (s : State) : Prop :=
  ∀ n, 1 ≤ (s.control.threshold.get n).toNat ∧ (s.control.threshold.get n).toNat ≤ 8

/-- R179: at most 8 channels, without duplicates; R177: the mismatch counter is at most 255. -/
def State.queueLaw (s : State) : Prop :=
  s.repairQueue.length ≤ Config.repairDepth ∧ s.repairQueue.Nodup ∧ s.mismatches ≤ 255

/-- The channel is BOUND to a SUSPECT slot. -/
def State.boundSuspect (s : State) (c : Channel) : Prop :=
  ∃ i, (s.entry c).binding = .bound i ∧ (s.slot i).state = .suspect

/-- R179: each queued channel is BOUND to a SUSPECT slot. -/
def State.queuedLaw (s : State) : Prop := ∀ c ∈ s.repairQueue, s.boundSuspect c

/-- The contexts of the pending probe: those of the host without a drop mark (R106, R110). -/
def State.probeContexts (s : State) : Nat :=
  (List.finRange 4).countP fun k => (s.context k).any fun l => l.requester == .host && !l.drop

/-- R106, R194: the buffer is PENDING exactly while a probe is pending, and exactly a granted one has a context. -/
def State.probeLaw (s : State) : Prop :=
  (s.response.status = .pending ↔ s.probe ≠ .none) ∧ s.probeContexts = if s.probe = .inFlight then 1 else 0

/-- The tail of a record is read by one read of the length that the record's head gives (R165). -/
def State.tailLaw (s : State) (head : List Byte) : Prop :=
  ∀ t ∈ s.port, t.finishing = false → t.kind = .read (decodeHead head).tailLength

/-- R4, R44: every content holds stated values, and every list that a completion will read, and that is delivered, holds
at least 2 points: those of installed slots, those of slots pinned by a lookup that is not to be dropped, and the staged
list that a waiting probe was accepted for. Only the host's lookup pins a STAGED slot (R107). -/
def State.readLaw (s : State) : Prop :=
  (∀ i, (s.slot i).content.stated = true) ∧
    (∀ i, (s.slot i).state.installed = true → 2 ≤ (s.slot i).content.points.length) ∧
    (∀ k, ∀ l ∈ s.context k, ∀ i ∈ l.pinned, l.drop = false →
      2 ≤ (s.slot i).content.points.length ∧ ((s.slot i).state = .staged → l.requester = .host)) ∧
    (∀ q i, s.probe = .waiting q → q.staged = some i → (∃ e ∈ s.edits, e.slot = some i) →
      2 ≤ (s.slot i).content.points.length) ∧
    match s.ctl with
    | .loading { stage := .tail _ head, .. } => s.tailLaw head
    | .repairing { stage := .tail _ head, .. } => s.tailLaw head
    | _ => True

/-- R139, R149: what a save has put into pages, this many bytes of them in the page at the port, and what is left of the
record image last read, come from the records read, each of at most 193 bytes. -/
def SaveState.bodyLaw (v : SaveState) (atPort : Nat) : Prop :=
  v.done + atPort + v.rest.length ≤ 193 * v.written.length

/-- R148, R149, R151: at most 128 records are read in all, and from the choice of its target on a save has its own
transfers on the port, each a page write inside the target area. -/
def State.saveLaw (s : State) : Prop :=
  match s.ctl with
  | .saving v =>
    let writing (address : Nat) (fits : List Byte → Prop) : Prop :=
      ∀ t ∈ s.port, t.finishing = false ∧ t.address = address ∧ ∃ data, t.kind = .write data ∧ fits data
    v.written.length + (s.channelsLeft v.last).length ≤ 128 ∧
      match v.stage with
      | .readA => v.bodyLaw 0
      | .readB _ => v.bodyLaw 0 ∧ ∀ t ∈ s.port, t.finishing = false ∧ t.kind = .read 64
      | .invalidate g => v.bodyLaw 0 ∧ writing g.area.base fun data => data.length = 4
      | .body g => writing (g.area.base + 64 + v.done) fun data => v.bodyLaw data.length
      | .header g => writing g.area.base fun data => data.length = 64
      | .marker g => writing g.area.base fun data => data.length = 4
  | .idle | .loading _ | .repairing _ => True

/-- R137: the store is in canonical form. -/
def State.storeLaw (s : State) : Prop := Mem.wf s.store = true

/-- An invariant that every command keeps. -/
def Kept (inv : State → Prop) : Prop := ∀ s t, inv s → step s = .next t → inv t

end Sys2Proof.Machine
end

