-- ==== Sys2Proof/Certificates/Slice0/Obligations.lean ====
section
/-! DEFINITION. The statements about the V128. -/

open Sys2Proof Sys2Proof.Machine

/-! ### The machine, the resets, the port -/

/-- One step runs the command at the front of the queue on the state with the queue's rest. That an empty queue idles is
the model's choice (log entry 9). -/
def Obligations.StepRunsFrontCommand : Prop :=
  (∀ (c : Instr) (rest : List Instr) (s : State),
    step { s with pending := c :: rest } = exec c { s with pending := rest }) ∧
  ∀ s : State, step { s with pending := [] } = .next { s with pending := [] }

/-- Every command and event has a next state, and none touches the queue of commands waiting. That a row whose event's
conditions do not hold has a next state too, the state itself, is the model's choice (log entry 6). -/
def Obligations.EveryCommandCompletes : Prop :=
  ∀ (c : Instr) (s : State), ∃ t, exec c s = .next t ∧ t.pending = s.pending

/-- R24, R137, R153 and the reset rule of every other block: power-on reset and pin reset have the same effect, leave
the empty table and every block at its reset value, the controller LOADING (R145), and leave every byte of the store as
it is, but for the bytes of a page write they cut. (That the reset's event leaves the device held in reset, with `held`
and the engine hold set and the load in DRAIN, is log entry 1.) -/
def Obligations.ResetsEmptyTheDeviceAndKeepTheStore : Prop :=
  (∀ (torn : List Byte) (s : State), ∃ t,
     exec (.powerOnReset torn) s = .next t ∧ exec (.pinReset torn) s = .next t ∧
     (∀ c, t.entry c = { binding := .unassigned, revision := 0#16 }) ∧
     (∀ i, (t.slot i).state = .free ∧ (t.slot i).pins = 0 ∧ (t.slot i).expired = false) ∧
     t.freeSlots = 128 ∧ t.freeCells = 2048 ∧ t.epoch = 0#32 ∧
     t.edits = [] ∧ t.lease = .stopped ∧
     (∀ k, t.context k = none) ∧ t.pointer = 0 ∧ t.probe = .none ∧
     (∀ n, t.lane n = { requests := [], results := [], inFlight := 0 }) ∧
     t.partTime = 0#32 ∧ t.msCount = 0 ∧
     (∀ c, t.reasonsOf c = 0#5) ∧ t.causes = 0#3 ∧ t.attn = false ∧
     t.port = none ∧ t.repairQueue = [] ∧ t.lastSave = .none ∧ t.lastLoad = .none ∧ t.lastRepair = .none ∧
     t.scrubPos = 0 ∧ t.scrubCount = 0 ∧ t.mismatches = 0 ∧
     t.response = { status := .ok, echo := 0#8, counter := 0#8, refused := false, payload := [] } ∧ t.counter = 0#8 ∧
     t.control = { lease := 30#8, step := 20#8, repairEnable := true, laneEnable := #v[true, true, true, true],
                   threshold := #v[1#8, 1#8, 1#8, 1#8], reasonMask := 0b11111#5, causeMask := 0b111#3 } ∧
     t.receiver = .idle ∧ t.held = true ∧ t.hold = true ∧
     t.ctl = .loading { stage := .drain, installed := 0, lost := 0 }) ∧
  ∀ (torn : List Byte) (s t : State), exec (.powerOnReset torn) s = .next t ∨ exec (.pinReset torn) s = .next t →
    ((∀ p ∈ s.port, ∃ n, p.kind = .read n) → t.store = s.store) ∧
    ∀ p ∈ s.port, ∀ data, p.kind = .write data → p.address + data.length ≤ 65536 →
      ∀ a, (a < p.address ∨ p.address + data.length ≤ a) → Mem.read t.store a = Mem.read s.store a

/-- R103, R160, R162, R163: at the end of a reset the boot load begins; no slot is pinned and no lookup is in flight, so
the table is cleared at the same event and the read of area A's header is issued. -/
def Obligations.BootLoadBegins : Prop :=
  ∀ (csLow : Bool) (s : State), s.held = true → (∀ i, (s.slot i).pins = 0) → (∀ k, s.context k = none) →
    s.port = none →
    exec (.bootLoad csLow) s = .next
      { s with
        held := false, receiver := if csLow then .awaitHigh else .idle, hold := true
        map := Vector.replicate 256 { binding := .unassigned, revision := 0#16 }
        slots := Vector.replicate 128 Slot.blank, freeCells := 2048
        reasons := Vector.replicate 256 0#5, repairQueue := []
        ctl := .loading { stage := .readA, installed := 0, lost := 0 }
        port := some { address := 0, kind := .read 64, finishing := false, ticks := 0 } }

/-- R160, R202: while the device is held in reset, no command, transaction, tick, grant, completion, arrival or event of
the store is taken (log entry 12); what is left is a reset, its end, and what acts outside the device's clock. After a
reset the receiver waits for chip select to be high; until then every transaction is ignored, and the rise lets it begin
new ones. (That a transaction so ignored leaves the record of the bytes shifted out as it was is log entry 11.) -/
def Obligations.HeldDeviceAndWaitingReceiverTakeNothing : Prop :=
  (∀ (i : Instr) (s : State), s.held = true → (∀ torn, i ≠ .powerOnReset torn) → (∀ torn, i ≠ .pinReset torn) →
     (∀ b, i ≠ .bootLoad b) → (∀ n, i ≠ .resultTake n) → (∀ j c, i ≠ .upset j c) → exec i s = .next s) ∧
  ∀ s : State, s.held = false → s.receiver = .awaitHigh →
    (∀ i, (i.isCommand = true ∨ i.isTransaction = true) → exec i s = .next s) ∧
    exec .chipSelectRiseAfterReset s = .next { s with receiver := .idle }

/-- R189, R203, R204: for every command that can be sent, the frame that carries it passes the frame checks and is
decoded to that command with every operand. -/
def Obligations.CommandFramesRoundTrip : Prop :=
  ∀ (i : Instr) (k : CommandCode) (p : List Byte), i.wf = true → encodePayload i = some (k, p) →
    p.length ≤ 64 ∧ checkFrame (frameOf k p) = .good k p ∧ decodePayload k p = some i

/-- R188, R189, R191: the command write of a command's frame runs that command at the rise of chip select; 00h was
shifted out for every byte. A command write that the port hears completes: the device is in the state the command
leaves, and the frame of a command other than Restart is counted and echoed. -/
def Obligations.CommandWriteRunsItsCommand : Prop :=
  (∀ (i : Instr) (bytes : List Byte) (s : State), s.held = false → s.receiver = .idle → i.wf = true →
     encodeFrame i = some bytes →
     exec (.commandWrite bytes) s = exec i { s with sdo := List.replicate (bytes.length + 1) 0#8 }) ∧
  ∀ (i : Instr) (k : CommandCode) (p : List Byte) (s : State), s.hears → i.wf = true →
    encodePayload i = some (k, p) → ∃ t : State,
      exec (.commandWrite (frameOf k p)) s = .next t ∧
      exec i { s with sdo := List.replicate ((frameOf k p).length + 1) 0#8 } = .next t ∧
      t.sdo = List.replicate ((frameOf k p).length + 1) 0#8 ∧
      (i ≠ .restart → t.counter = s.counter + 1#8 ∧ t.response.echo = codeByte k ∧
        t.response.counter = s.counter + 1#8 ∧ t.response.refused = false)

/-- R189, R190, R191, R204: the frame checks in their order, and the answer to a frame that fails one: the error status,
the code byte received or 00h, the counter as it stands, an empty payload; no other state changes. A taken frame whose
payload has a length its layout does not allow is counted and answered LOADING where the command's rule makes that its
first check and a load is in progress, and BAD_PARAM otherwise. -/
def Obligations.BadFramesAreAnswered : Prop :=
  ((∀ bytes : List Byte, bytes.length < 2 → checkFrame bytes = .bad bytes.head? .frameLength) ∧
   (∀ (c len : Byte) (rest : List Byte),
     (64 < len.toNat ∨ rest.length ≠ len.toNat + 2 → checkFrame (c :: len :: rest) = .bad (some c) .frameLength) ∧
     (len.toNat ≤ 64 → rest.length = len.toNat + 2 →
       (be16 (deviceCrc (c :: len :: rest.take len.toNat)) ≠ rest.drop len.toNat →
         checkFrame (c :: len :: rest) = .bad (some c) .frameCrc) ∧
       (be16 (deviceCrc (c :: len :: rest.take len.toNat)) = rest.drop len.toNat →
         ((∀ k, codeByte k ≠ c) → checkFrame (c :: len :: rest) = .bad (some c) .unknownCommand) ∧
         ∀ k, codeByte k = c → checkFrame (c :: len :: rest) = .good k (rest.take len.toNat)))) ∧
   ∀ (bytes : List Byte) (code : Option Byte) (e : FrameError) (s : State), s.hears →
     let answer : Response :=
       { status := frameErrorStatus e, echo := code.getD 0#8, counter := s.counter, refused := false, payload := [] }
     exec (.frameError code e) s = .next { s with response := answer } ∧
     (checkFrame bytes = .bad code e →
       exec (.commandWrite bytes) s =
         .next { s with sdo := List.replicate (bytes.length + 1) 0#8, response := answer })) ∧
  ∀ (bytes p : List Byte) (k : CommandCode) (s : State), s.hears → checkFrame bytes = .good k p →
    decodePayload k p = none →
    exec (.commandWrite bytes) s = .next
      (State.answered { s with sdo := List.replicate (bytes.length + 1) 0#8 } k
        (if s.isLoading = true ∧ k ∈ [.openEdit, .setFields, .setLabel, .putPoints, .trimPoints, .dropEdit, .abandon,
            .commit, .probe] then .loading else .badParam) [])

/-- R106, R190, R194: while a probe is pending, every command frame other than Restart, and every frame that fails a
frame check, leaves the buffer as it is but for REFUSED_FRAME, and changes nothing else. -/
def Obligations.PendingProbeRefusesFrames : Prop :=
  ∀ s : State, s.held = false → s.receiver = .idle → s.probe ≠ .none →
    (∀ i, i.isCommand = true → i ≠ .restart →
      exec i s = .next { s with response := { s.response with refused := true } }) ∧
    (∀ code e, exec (.frameError code e) s = .next { s with response := { s.response with refused := true } }) ∧
    ∀ bytes, (∀ p, checkFrame bytes ≠ .good .restart p) →
      exec (.commandWrite bytes) s = .next
        { s with sdo := List.replicate (bytes.length + 1) 0#8, response := { s.response with refused := true } }

/-- R191: every taken frame is counted once and answered with its code, the counter after the increase, and
REFUSED_FRAME clear; and no command but Restart reaches the lookups in flight, the pointer, the lane queues, the store,
the scrub position, or the load and repair outcomes. -/
def Obligations.TakenFramesAreCounted : Prop :=
  ∀ (i : Instr) (k : CommandCode) (p : List Byte) (s : State), s.hears → encodePayload i = some (k, p) →
    i ≠ .restart → ∃ t, exec i s = .next t ∧ t.counter = s.counter + 1#8 ∧ t.response.echo = codeByte k ∧
      t.response.counter = s.counter + 1#8 ∧ t.response.refused = false ∧
      t.contexts = s.contexts ∧ t.pointer = s.pointer ∧ t.lanes = s.lanes ∧ t.store = s.store ∧
      t.scrubPos = s.scrubPos ∧ t.lastLoad = s.lastLoad ∧ t.lastRepair = s.lastRepair ∧ t.sdo = s.sdo ∧
      t.held = s.held ∧ t.receiver = s.receiver

/-- R188, R193, R204: a response read shifts out status (its code that of the table of section 12.2), echoed code,
counter, flags, payload length, payload and their CRC, then 00h, and changes nothing else; a transaction that begins
with neither C3h nor 3Ch, or with no whole byte, shifts out FFh for every byte and changes nothing else (the bytes
shifted out are the model's record, log entry 11). -/
def Obligations.TransactionsShiftOut : Prop :=
  (∀ (clocked : Nat) (s : State), s.held = false → s.receiver = .idle →
    let r := s.response
    let status : Byte :=
      match r.status with
      | .ok => 0x00#8 | .accepted => 0x01#8 | .pending => 0x02#8 | .rejected => 0x03#8 | .frameLength => 0x10#8
      | .frameCrc => 0x11#8 | .unknownCommand => 0x12#8 | .badParam => 0x20#8 | .noSlot => 0x21#8
      | .poolFull => 0x22#8 | .setFull => 0x23#8 | .inEdit => 0x24#8 | .notInEdit => 0x25#8 | .noEdit => 0x26#8
      | .wrongState => 0x27#8 | .notReady => 0x28#8 | .storeBusy => 0x30#8 | .suspectPresent => 0x31#8
      | .editOpen => 0x32#8 | .loading => 0x33#8
    let body := [status, r.echo, r.counter, if r.refused then 1#8 else 0#8,
      BitVec.ofNat 8 r.payload.length] ++ r.payload
    exec (.responseRead clocked) s = .next
      { s with sdo := (body ++ be16 (deviceCrc body) ++ List.replicate clocked 0#8).take clocked }) ∧
  ∀ (bytes : List Byte) (s : State), s.held = false → s.receiver = .idle →
    (∀ b ∈ bytes.head?, b ≠ 0xC3#8 ∧ b ≠ 0x3C#8) →
    exec (.ignoredTransaction bytes) s = .next { s with sdo := List.replicate bytes.length 0xFF#8 }

/-! ### The edit set -/

/-- R51, R52, R53, R54, R55: an accepted Open Edit appends its entry and restarts the lease timer; the response carries
the index and the slot; nothing else changes but the following. CREATE and REPLACE_EMPTY take the lowest-numbered FREE
slot with the empty defaults. REPLACE_COPY of a sound ACTIVE source whose points the free cells cover takes the slot and
the cells together and stages a copy of the source's fields. RETIRE takes no slot. -/
def Obligations.OpenEditStagesItsEntry : Prop :=
  (∀ (c : Channel) (b : Byte) (kind : EditKind) (i : SlotIdx) (s : State), s.hears → s.isLoading = false →
     (b = 0x00#8 ∧ kind = .create ∧ (∀ j, (s.entry c).binding ≠ .bound j) ∨
       b = 0x02#8 ∧ kind = .replaceEmpty ∧
         ∃ j, (s.entry c).binding = .bound j ∧ ((s.slot j).state = .active ∨ (s.slot j).state = .suspect)) →
     (∀ e ∈ s.edits, e.channel ≠ c) → s.edits.length < 16 → s.isLowestFree i →
     exec (.openEdit c b) s = .next
       (State.answered
         { s.setSlot i
             { state := .staged, pins := 0, expired := false
               content := { channel := c, revision := 0#16, format := .u16, endMode := .clamp, action := .warn,
                            points := [], limits := none, due := none, label := [], crc := 0#16 } } with
           edits := s.edits ++ [{ channel := c, kind, slot := some i }], lease := s.freshLease }
         .openEdit .ok [BitVec.ofNat 8 s.edits.length, BitVec.ofNat 8 i.val])) ∧
  (∀ (c : Channel) (i src : SlotIdx) (s : State), s.hears → s.isLoading = false →
     (s.entry c).binding = .bound src → (s.slot src).state = .active → (∀ e ∈ s.edits, e.channel ≠ c) →
     s.edits.length < 16 → s.isLowestFree i → (s.slot src).content.points.length ≤ s.freeCells →
     contentCrc (s.slot src).content = (s.slot src).content.crc →
     exec (.openEdit c 0x01#8) s = .next
       (State.answered
         { s.setSlot i
             { state := .staged, pins := 0, expired := false
               content := { (s.slot src).content with channel := c, revision := 0#16, crc := 0#16 } } with
           freeCells := s.freeCells - (s.slot src).content.points.length
           edits := s.edits ++ [{ channel := c, kind := .replaceCopy, slot := some i }], lease := s.freshLease }
         .openEdit .ok [BitVec.ofNat 8 s.edits.length, BitVec.ofNat 8 i.val])) ∧
  ∀ (c : Channel) (s : State), s.hears → s.isLoading = false → (s.entry c).binding ≠ .unassigned →
    (∀ e ∈ s.edits, e.channel ≠ c) → s.edits.length < 16 →
    exec (.openEdit c 0x03#8) s = .next
      (State.answered
        { s with edits := s.edits ++ [{ channel := c, kind := .retire, slot := none }], lease := s.freshLease }
        .openEdit .ok [BitVec.ofNat 8 s.edits.length, 0xFF#8])

/-- R51, R54, R146, R176: the checks 1 to 7 of Open Edit in their order; a refusal at any of them changes no state. At
check 8 a copy check that finds a mismatch makes the source SUSPECT, raises SUSPECT for the channel bound to it, counts
the mismatch and queues the channel, a repair that may start starts at this event (R146), and Open Edit is refused with
WRONG_STATE. -/
def Obligations.OpenEditRefusalsInOrder : Prop :=
  (∀ (c : Channel) (b : Byte) (s : State), s.hears →
     let refused (st : Status) : Prop := exec (.openEdit c b) s = .next (s.answered .openEdit st [])
     (s.isLoading = true → refused .loading) ∧
     (s.isLoading = false →
       (3 < b.toNat → refused .badParam) ∧
       (b.toNat ≤ 3 →
         ((∃ e ∈ s.edits, e.channel = c) → refused .inEdit) ∧
         ((∀ e ∈ s.edits, e.channel ≠ c) →
           (16 ≤ s.edits.length → refused .setFull) ∧
           (s.edits.length < 16 →
             (b = 0x00#8 → (∃ j, (s.entry c).binding = .bound j) → refused .wrongState) ∧
             (b = 0x01#8 → (∀ j, (s.entry c).binding = .bound j → (s.slot j).state ≠ .active) → refused .wrongState) ∧
             (b = 0x02#8 → (∀ j, (s.entry c).binding = .bound j →
               (s.slot j).state ≠ .active ∧ (s.slot j).state ≠ .suspect) → refused .wrongState) ∧
             (b = 0x03#8 → (s.entry c).binding = .unassigned → refused .wrongState) ∧
             (b = 0x00#8 → (∀ j, (s.entry c).binding ≠ .bound j) → (∀ i, (s.slot i).state ≠ .free) → refused .noSlot) ∧
             (∀ j, (s.entry c).binding = .bound j → (s.slot j).state = .suspect → b = 0x02#8 →
               (∀ i, (s.slot i).state ≠ .free) → refused .noSlot) ∧
             ∀ j, (s.entry c).binding = .bound j → (s.slot j).state = .active →
               (b = 0x01#8 ∨ b = 0x02#8 → (∀ i, (s.slot i).state ≠ .free) → refused .noSlot) ∧
               (b = 0x01#8 → (∃ i, (s.slot i).state = .free) →
                 s.freeCells < (s.slot j).content.points.length → refused .poolFull)))))) ∧
  ∀ (c : Channel) (i src : SlotIdx) (s : State), s.hears → s.bindingLaw → s.isLoading = false →
    (s.entry c).binding = .bound src → (s.slot src).state = .active → (∀ e ∈ s.edits, e.channel ≠ c) →
    s.edits.length < 16 → s.isLowestFree i → (s.slot src).content.points.length ≤ s.freeCells →
    contentCrc (s.slot src).content ≠ (s.slot src).content.crc →
    exec (.openEdit c 0x01#8) s = .next
      (State.answered
        (State.withRepair
          { (s.setSlot src { s.slot src with state := .suspect }).setReasons c (s.reasonsOf c ||| 0b00100#5) with
            mismatches := if s.mismatches < 255 then s.mismatches + 1 else 255
            repairQueue :=
              if c ∈ s.repairQueue ∨ 8 ≤ s.repairQueue.length then s.repairQueue else s.repairQueue ++ [c] })
        .openEdit .wrongState [])

/-- R56, R57, R58, R59, R60: an accepted Set Fields replaces five items, Set Label the label; Put Points writes its
points at start to start + n - 1, keeps every other position and takes cells for the new positions only; Trim Points
shortens the list and returns its cells. Each restarts the lease timer and changes nothing else. -/
def Obligations.ContentCommandsWriteTheirItems : Prop :=
  (∀ (c : Channel) (e : Entry) (i : SlotIdx) (s : State), s.hears → s.isLoading = false → s.findEdit c = some e →
     e.slot = some i →
     (∀ (f : FieldBytes) (format : Format) (mode : EndMode) (action : ExpiryAction) (limits due : Bool),
       f.format = formatCode format → f.endMode = endModeCode mode → f.action = actionCode action →
       f.limitsPresent = (if limits then 1#8 else 0#8) → f.duePresent = (if due then 1#8 else 0#8) →
       (due = true → f.due ≠ 0#32) →
       exec (.setFields c f) s = .next
         (State.answered
           { s.setSlot i
               { s.slot i with
                 content := { (s.slot i).content with
                   format := format, endMode := mode, action := action
                   limits := if limits then some { low := f.low, high := f.high } else none
                   due := if due then some f.due else none } } with
             lease := s.freshLease }
           .setFields .ok [])) ∧
     (∀ label : List Byte, label.length ≤ 15 → (∀ b ∈ label, 0x20#8 ≤ b ∧ b ≤ 0x7E#8) →
       exec (.setLabel c label) s = .next
         (State.answered
           { s.setSlot i { s.slot i with content := { (s.slot i).content with label := label } } with
             lease := s.freshLease }
           .setLabel .ok [])) ∧
     ∀ n : Byte, n.toNat ≤ (s.slot i).content.points.length →
       exec (.trimPoints c n) s = .next
         (State.answered
           { s.setSlot i
               { s.slot i with
                 content := { (s.slot i).content with points := (s.slot i).content.points.take n.toNat } } with
             freeCells := s.freeCells + ((s.slot i).content.points.length - n.toNat), lease := s.freshLease }
           .trimPoints .ok [])) ∧
  ∀ (c : Channel) (e : Entry) (i : SlotIdx) (start : Byte) (points : List Point) (s : State), s.hears →
    s.isLoading = false → s.findEdit c = some e → e.slot = some i →
    1 ≤ points.length → points.length ≤ 12 → start.toNat ≤ (s.slot i).content.points.length →
    start.toNat + points.length ≤ 32 →
    max (s.slot i).content.points.length (start.toNat + points.length) ≤
      s.freeCells + (s.slot i).content.points.length →
    ∃ list : List Point,
      (∀ j, start.toNat ≤ j → j < start.toNat + points.length → list[j]? = points[j - start.toNat]?) ∧
      (∀ j, j < start.toNat ∨ start.toNat + points.length ≤ j → list[j]? = (s.slot i).content.points[j]?) ∧
      list.length = max (s.slot i).content.points.length (start.toNat + points.length) ∧
      exec (.putPoints c start points) s = .next
        (State.answered
          { s.setSlot i { s.slot i with content := { (s.slot i).content with points := list } } with
            freeCells := s.freeCells - (list.length - (s.slot i).content.points.length), lease := s.freshLease }
          .putPoints .ok [])

/-- R56, R57, R58, R59, R60: the refusals of the content commands in their order; a refusal changes no state. -/
def Obligations.ContentCommandRefusalsInOrder : Prop :=
  ∀ (c : Channel) (f : FieldBytes) (label : List Byte) (start n : Byte) (points : List Point) (s : State), s.hears →
    let refused (st : Status) : Prop :=
      exec (.setFields c f) s = .next (s.answered .setFields st []) ∧
      exec (.setLabel c label) s = .next (s.answered .setLabel st []) ∧
      exec (.putPoints c start points) s = .next (s.answered .putPoints st []) ∧
      exec (.trimPoints c n) s = .next (s.answered .trimPoints st [])
    (s.isLoading = true → refused .loading) ∧
    (s.isLoading = false →
      (s.findEdit c = none → refused .notInEdit) ∧
      ∀ e, s.findEdit c = some e →
        (e.slot = none → refused .wrongState) ∧
        ∀ i, e.slot = some i →
          let count := (s.slot i).content.points.length
          (1 < f.format.toNat ∨ 1 < f.endMode.toNat ∨ 1 < f.action.toNat ∨ 1 < f.limitsPresent.toNat ∨
              1 < f.duePresent.toNat ∨ (f.duePresent = 1#8 ∧ f.due = 0#32) →
            exec (.setFields c f) s = .next (s.answered .setFields .badParam [])) ∧
          (15 < label.length ∨ (∃ b ∈ label, b < 0x20#8 ∨ 0x7E#8 < b) →
            exec (.setLabel c label) s = .next (s.answered .setLabel .badParam [])) ∧
          (count < n.toNat → exec (.trimPoints c n) s = .next (s.answered .trimPoints .badParam [])) ∧
          (points = [] ∨ 12 < points.length ∨ count < start.toNat ∨ 32 < start.toNat + points.length →
            exec (.putPoints c start points) s = .next (s.answered .putPoints .badParam [])) ∧
          (points ≠ [] → points.length ≤ 12 → start.toNat ≤ count → start.toNat + points.length ≤ 32 →
            s.freeCells + count < start.toNat + points.length →
            exec (.putPoints c start points) s = .next (s.answered .putPoints .poolFull [])))

/-- R61, R62: an accepted Drop Edit removes its entry, the later ones moving down; the staged slot enters FREE with its
cells; the lease timer is restarted, or stopped with the last entry. Abandon discards every entry: each staged slot
enters FREE, its cells return, the set is EMPTY, the timer STOPPED. Nothing else changes. They are refused with
NOT_IN_EDIT and NO_EDIT, and with LOADING first. -/
def Obligations.DropEditAndAbandonDiscard : Prop :=
  (∀ (c : Channel) (s : State), s.hears → s.isLoading = false →
     (∀ (before after : List Entry) (e : Entry), s.edits = before ++ e :: after → e.channel = c →
       (∀ d ∈ before, d.channel ≠ c) →
       let lease := if before ++ after = [] then LeaseTimer.stopped else s.freshLease
       (e.slot = none → exec (.dropEdit c) s = .next
         (State.answered { s with edits := before ++ after, lease } .dropEdit .ok [])) ∧
       ∀ i, e.slot = some i → (s.slot i).pins = 0 → exec (.dropEdit c) s = .next
         (State.answered
           { s.setSlot i Slot.blank with
             freeCells := s.freeCells + (s.slot i).content.points.length, edits := before ++ after, lease }
           .dropEdit .ok [])) ∧
     ((∀ e ∈ s.edits, e.channel ≠ c) → exec (.dropEdit c) s = .next (s.answered .dropEdit .notInEdit []))) ∧
  (∀ (c : Channel) (s : State), s.hears → s.isLoading = true →
    exec (.dropEdit c) s = .next (s.answered .dropEdit .loading []) ∧
    exec .abandon s = .next (s.answered .abandon .loading [])) ∧
  ∀ s : State, s.hears → s.isLoading = false →
    (s.edits = [] → exec .abandon s = .next (s.answered .abandon .noEdit [])) ∧
    (s.edits ≠ [] → (s.edits.filterMap Entry.slot).Nodup → (∀ e ∈ s.edits, ∀ i ∈ e.slot, (s.slot i).pins = 0) →
      ∃ t : State, exec .abandon s = .next (t.answered .abandon .ok []) ∧
        (∀ i, t.slot i = if (∃ e ∈ s.edits, e.slot = some i) then Slot.blank else s.slot i) ∧
        t.freeCells = s.freeCells +
          ((s.edits.filterMap Entry.slot).map fun i => (s.slot i).content.points.length).sum ∧
        t = { s with slots := t.slots, freeCells := t.freeCells, edits := [], lease := .stopped })

/-- R68, R204: Read Edit Set reports the size, the timer and up to 8 entries from the start index, and changes no state;
a start above 15 is refused. That the bytes of L and k keep their place in a payload of 4 + 5n bytes when the timer is
not COUNTING is the model's choice (log entry 16). -/
def Obligations.ReadEditSetReportsTheSet : Prop :=
  ∀ (start : Byte) (s : State), s.hears →
    (15 < start.toNat → exec (.readEditSet start) s = .next (s.answered .readEditSet .badParam [])) ∧
    (start.toNat ≤ 15 → s.edits.length ≤ 16 → ∃ payload,
      exec (.readEditSet start) s = .next (s.answered .readEditSet .ok payload) ∧
      payload.take 1 = [BitVec.ofNat 8 s.edits.length] ∧
      (s.lease = .stopped → (payload.drop 1).take 1 = [0x00#8]) ∧
      (s.lease = .untimed → (payload.drop 1).take 1 = [0x01#8]) ∧
      (∀ l k, s.lease = .counting l k → (payload.drop 1).take 3 = [0x02#8, l, BitVec.ofNat 8 k]) ∧
      payload.length = 4 + 5 * min 8 (s.edits.length - start.toNat) ∧
      ∀ (j : Nat) (e : Entry), j < 8 → s.edits[start.toNat + j]? = some e →
        (payload.drop (4 + 5 * j)).take 5 =
          [BitVec.ofNat 8 (start.toNat + j), BitVec.ofNat 8 e.channel.val,
           match e.kind with
           | .create => 0x00#8
           | .replaceCopy => 0x01#8
           | .replaceEmpty => 0x02#8
           | .retire => 0x03#8,
           match e.slot with
           | some i => BitVec.ofNat 8 i.val
           | none => 0xFF#8,
           match e.slot with
           | some i => BitVec.ofNat 8 (s.slot i).content.points.length
           | none => 0x00#8])

/-! ### Commit -/

/-- R69, R71, R72, R73, R74, R204: Commit is refused with LOADING, NO_EDIT and STORE_BUSY in that order, changing no
state; a set with a failing entry is REJECTED with the first failing index and its reason, and only the lease timer is
restarted. What fails, in order: fewer than 2 points; two neighbours whose x, read under the format, do not increase;
limits with low not below high; a due time not after part time. -/
def Obligations.CommitValidatesItsSet : Prop :=
  (∀ (now : Word) (c : Content),
     let ordered := ∀ (j : Nat) (p q : Point), c.points[j]? = some p → c.points[j + 1]? = some q →
       readX c.format p.x < readX c.format q.x
     let limited := ∀ l ∈ c.limits, l.low.toInt < l.high.toInt
     let current := ∀ d ∈ c.due, now.toNat < d.toNat
     (c.points.length < 2 → validateContent now c = some .points) ∧
     (2 ≤ c.points.length → ¬ ordered → validateContent now c = some .order) ∧
     (2 ≤ c.points.length → ordered → ¬ limited → validateContent now c = some .limits) ∧
     (2 ≤ c.points.length → ordered → limited → ¬ current → validateContent now c = some .duePast) ∧
     (2 ≤ c.points.length → ordered → limited → current → validateContent now c = none)) ∧
  ∀ s : State, s.hears →
    (s.isLoading = true → exec .commit s = .next (s.answered .commit .loading [])) ∧
    (s.isLoading = false →
      (s.edits = [] → exec .commit s = .next (s.answered .commit .noEdit [])) ∧
      (s.edits ≠ [] →
        (s.isSaving = true → exec .commit s = .next (s.answered .commit .storeBusy [])) ∧
        (s.isSaving = false →
          ∀ (before after : List Entry) (e : Entry) (i : SlotIdx) (r : RejectReason), s.edits = before ++ e :: after →
            (∀ d ∈ before, ∀ j, d.slot = some j → validateContent s.partTime (s.slot j).content = none) →
            e.slot = some i → validateContent s.partTime (s.slot i).content = some r →
            exec .commit s = .next
              (State.answered { s with lease := s.freshLease } .commit .rejected
                [BitVec.ofNat 8 before.length,
                 match r with
                 | .points => 0x00#8
                 | .order => 0x01#8
                 | .limits => 0x02#8
                 | .duePast => 0x03#8]))))

/-- R75 to R81: an accepted Commit applies its whole set at one event. Every entry with a staged slot is installed
ACTIVE under the next revision and BOUND; every RETIRE entry leaves its channel UNASSIGNED with its revision; every slot
that a channel of the set was bound to is superseded; the channels lose their reasons and queue places; the epoch counts
once; the set is EMPTY; the response lists the channels with their revisions. Nothing else changes. -/
def Obligations.CommitAppliesTheWholeSet : Prop :=
  ∀ s : State, s.hears → s.isLoading = false → s.isSaving = false → s.edits ≠ [] → s.bindingLaw → s.editLaw →
    (∀ e ∈ s.edits, ∀ i, e.slot = some i → validateContent s.partTime (s.slot i).content = none) →
    ∃ t, exec .commit s = .next t ∧
      (∀ e ∈ s.edits, ∀ i, e.slot = some i →
        let revision := if (s.entry e.channel).revision = 65535#16 then 1#16 else (s.entry e.channel).revision + 1#16
        let content := { (s.slot i).content with channel := e.channel, revision }
        t.entry e.channel = { binding := .bound i, revision } ∧
        t.slot i = { state := .active, pins := (s.slot i).pins, expired := false,
                     content := { content with crc := contentCrc content } }) ∧
      (∀ e ∈ s.edits, e.slot = none →
        t.entry e.channel = { binding := .unassigned, revision := (s.entry e.channel).revision }) ∧
      (∀ e ∈ s.edits, ∀ i, (s.entry e.channel).binding = .bound i →
        t.slot i = if (s.slot i).pins = 0 then Slot.blank else { s.slot i with state := .draining }) ∧
      (∀ i, (∀ e ∈ s.edits, e.slot ≠ some i ∧ (s.entry e.channel).binding ≠ .bound i) → t.slot i = s.slot i) ∧
      (∀ e ∈ s.edits, t.reasonsOf e.channel = 0#5) ∧
      (∀ c, (∀ e ∈ s.edits, e.channel ≠ c) → t.entry c = s.entry c ∧ t.reasonsOf c = s.reasonsOf c) ∧
      t.repairQueue = s.repairQueue.filter (fun c => s.edits.all fun e => e.channel != c) ∧
      t.epoch = s.epoch + 1#32 ∧ t.edits = [] ∧ t.lease = .stopped ∧
      t.freeCells + t.cellsUsed = s.freeCells + s.cellsUsed ∧
      t.response = { status := .ok, echo := 0x16#8, counter := s.counter + 1#8, refused := false
                     payload := be32 (s.epoch + 1#32) ++ [BitVec.ofNat 8 s.edits.length] ++
                       s.edits.flatMap fun e => BitVec.ofNat 8 e.channel.val :: be16 (t.entry e.channel).revision } ∧
      t = { s with map := t.map, slots := t.slots, freeCells := t.freeCells, reasons := t.reasons
                   repairQueue := t.repairQueue, epoch := t.epoch, edits := t.edits, lease := t.lease
                   counter := s.counter + 1#8, response := t.response }

/-! ### Inspection -/

/-- R26: Read Map Entry is answered OK with the kind, the slot number (0 unless BOUND) and the revision, in every
controller state, and changes no state. -/
def Obligations.ReadMapEntryReportsTheEntry : Prop :=
  ∀ (c : Channel) (s : State), s.hears →
    (∀ i, (s.entry c).binding = .bound i → exec (.readMapEntry c) s = .next
      (s.answered .readMapEntry .ok ([0x01#8, BitVec.ofNat 8 i.val] ++ be16 (s.entry c).revision))) ∧
    ((s.entry c).binding = .unassigned → exec (.readMapEntry c) s = .next
      (s.answered .readMapEntry .ok ([0x00#8, 0x00#8] ++ be16 (s.entry c).revision))) ∧
    ((s.entry c).binding = .lost → exec (.readMapEntry c) s = .next
      (s.answered .readMapEntry .ok ([0x02#8, 0x00#8] ++ be16 (s.entry c).revision)))

/-- R27, R28: Read Record and Read Points select the bound or the staged slot, refuse in their order, report what the
slot holds as stored, and change no state. (A label has at most 15 characters, the law of DeliveredListsHoldTwoPoints.
That the due time takes 4 bytes in the response is log entry 28.) -/
def Obligations.ReadRecordAndPointsReportTheSlot : Prop :=
  ∀ (c : Channel) (which start count : Byte) (s : State), s.hears →
    let refused (st : Status) : Prop :=
      exec (.readRecord c which) s = .next (s.answered .readRecord st []) ∧
      exec (.readPoints c which start count) s = .next (s.answered .readPoints st [])
    let points (i : SlotIdx) : Prop :=
      let list := (s.slot i).content.points
      (count = 0#8 ∨ 12 < count.toNat ∨ list.length < start.toNat + count.toNat →
        exec (.readPoints c which start count) s = .next (s.answered .readPoints .badParam [])) ∧
      (count ≠ 0#8 → count.toNat ≤ 12 → start.toNat + count.toNat ≤ list.length →
        exec (.readPoints c which start count) s = .next (s.answered .readPoints .ok
          (((list.drop start.toNat).take count.toNat).flatMap fun p => be16 p.x ++ be24 p.y)))
    let record (i : SlotIdx) (state : Byte) (revision crc : Half) (expired : Byte) : Prop :=
      let r := (s.slot i).content
      r.label.length ≤ 15 →
      exec (.readRecord c which) s = .next (s.answered .readRecord .ok
        ([BitVec.ofNat 8 i.val, state] ++ be16 revision ++
          [match r.format with
           | .u16 => 0x00#8
           | .s16 => 0x01#8,
           match r.endMode with
           | .clamp => 0x00#8
           | .extend => 0x01#8,
           match r.action with
           | .warn => 0x00#8
           | .block => 0x01#8] ++
          (match r.limits with
           | some l => 0x01#8 :: (be24 l.low ++ be24 l.high)
           | none => List.replicate 7 0x00#8) ++
          (match r.due with
           | some d => 0x01#8 :: be32 d
           | none => List.replicate 5 0x00#8) ++
          (r.label ++ List.replicate (16 - r.label.length) 0x00#8) ++ [BitVec.ofNat 8 r.points.length] ++ be16 crc ++
          [expired, BitVec.ofNat 8 (s.slot i).pins]))
    (1 < which.toNat → refused .badParam) ∧
    (which = 0x00#8 →
      ((∀ i, (s.entry c).binding ≠ .bound i) → refused .wrongState) ∧
      ∀ i, (s.entry c).binding = .bound i →
        let state : Byte :=
          match (s.slot i).state with
          | .free => 0x00#8
          | .staged => 0x01#8
          | .active => 0x02#8
          | .suspect => 0x03#8
          | .draining => 0x04#8
        points i ∧ record i state (s.slot i).content.revision (s.slot i).content.crc
          (if (s.slot i).expired then 0x01#8 else 0x00#8)) ∧
    (which = 0x01#8 →
      (s.findEdit c = none → refused .notInEdit) ∧
      ∀ e, s.findEdit c = some e →
        (e.slot = none → refused .wrongState) ∧
        ∀ i, e.slot = some i → points i ∧ record i 0x01#8 0#16 0#16 0x00#8)

/-! ### Lanes, lookups, probes -/

/-- R90, R92, R205: a request word presented while ready is asserted joins the tail of its lane's queue with its
channel, raw code and tag; while ready is withdrawn nothing is taken; a take removes the head of the result queue, and
with valid deasserted takes nothing. Nothing else changes. -/
def Obligations.LaneQueuesAreFifo : Prop :=
  ∀ (n : LaneIdx) (s : State),
    (∀ (channel tag : Byte) (raw : Half), s.held = false → s.control.laneEnable.get n = true →
      (s.lane n).requests.length < 8 →
      exec (.requestArrival n (channel ++ raw ++ tag)) s = .next
        (s.setLane n
          { s.lane n with requests := (s.lane n).requests ++ [{ channel := channel.toFin, raw, tag }] })) ∧
    (∀ w, s.control.laneEnable.get n = false ∨ 8 ≤ (s.lane n).requests.length →
      exec (.requestArrival n w) s = .next s) ∧
    (∀ r rest, (s.lane n).results = r :: rest →
      exec (.resultTake n) s = .next (s.setLane n { s.lane n with results := rest })) ∧
    ((s.lane n).results = [] → exec (.resultTake n) s = .next s)

/-- R38, R96, R97, R100: the grant of a lane: the head request leaves the queue, the lowest free context records it, the
in-flight count rises, a BOUND entry's slot is pinned and its revision recorded, any other entry gives revision 0 and no
pin, and the pointer moves to the position after the lane. Nothing is granted where no lane is next. -/
def Obligations.LaneGrantStartsALookup : Prop :=
  ∀ s : State,
    (∀ (n : LaneIdx) (k : CtxIdx) (q : Request) (rest : List Request), s.held = false → s.grants n.castSucc k →
      (s.lane n).requests = q :: rest →
      let entry := s.entry q.channel
      let granted (revision : Half) (pinned : Option SlotIdx) : State :=
        { (s.setLane n { s.lane n with requests := rest, inFlight := (s.lane n).inFlight + 1 }).setContext k
            (some { requester := .lane n, tag := q.tag, channel := q.channel, raw := q.raw, which := .active,
                    binding := some entry.binding, revision, pinned, drop := false }) with
          pointer := n.castSucc + 1 }
      (∀ i, entry.binding = .bound i → exec .laneGrant s = .next
        ((granted entry.revision (some i)).setSlot i { s.slot i with pins := (s.slot i).pins + 1 })) ∧
      ((∀ i, entry.binding ≠ .bound i) → exec .laneGrant s = .next (granted 0#16 none))) ∧
    ((∀ (n : LaneIdx) k, ¬ s.grants n.castSucc k) → exec .laneGrant s = .next s)

/-- R105, R106, R107: an accepted Probe waits at the engine, records the staged slot where it reads one, and is answered
PENDING; the refusals of Probe in their order change no state. The grant of a waiting probe takes the lowest free
context and moves the pointer to lane 0; an ACTIVE probe reads the map entry, a STAGED probe pins the slot its entry
still names, with revision 0; a STAGED probe whose entry is gone is withdrawn with NOT_IN_EDIT and takes no context (log
entry 26). -/
def Obligations.ProbeIsAnsweredAndGranted : Prop :=
  (∀ (c : Channel) (raw : Half) (which : Byte) (s : State), s.hears →
     let refused (st : Status) : Prop := exec (.probe c raw which) s = .next (s.answered .probe st [])
     (s.isLoading = true → refused .loading) ∧
     (s.isLoading = false →
       (1 < which.toNat → refused .badParam) ∧
       (which = 0x00#8 → exec (.probe c raw which) s = .next
         (State.answered { s with probe := .waiting { channel := c, raw, which := .active, staged := none } }
           .probe .pending [])) ∧
       (which = 0x01#8 →
         (s.findEdit c = none → refused .notInEdit) ∧
         ∀ e, s.findEdit c = some e →
           (e.slot = none → refused .wrongState) ∧
           ∀ i, e.slot = some i →
             let r := (s.slot i).content
             let ready := 2 ≤ r.points.length ∧ ∀ (j : Nat) (p q : Point), r.points[j]? = some p →
               r.points[j + 1]? = some q → readX r.format p.x < readX r.format q.x
             (¬ ready → refused .notReady) ∧
             (ready → exec (.probe c raw which) s = .next
               (State.answered { s with probe := .waiting { channel := c, raw, which := .staged, staged := some i } }
                 .probe .pending []))))) ∧
  ∀ (k : CtxIdx) (q : ProbeRequest) (s : State), s.held = false → s.grants 4 k → s.probe = .waiting q →
    let granted (binding : Option Binding) (revision : Half) (pinned : Option SlotIdx) : State :=
      { s.setContext k
          (some { requester := .host, tag := 0#8, channel := q.channel, raw := q.raw, which := q.which, binding,
                  revision, pinned, drop := false }) with
        pointer := 0, probe := .inFlight }
    let pin (i : SlotIdx) (t : State) : State := t.setSlot i { s.slot i with pins := (s.slot i).pins + 1 }
    (q.which = .active →
      (∀ i, (s.entry q.channel).binding = .bound i → exec .probeGrant s = .next
        (pin i (granted (some (.bound i)) (s.entry q.channel).revision (some i)))) ∧
      ((∀ i, (s.entry q.channel).binding ≠ .bound i) → exec .probeGrant s = .next
        (granted (some (s.entry q.channel).binding) 0#16 none))) ∧
    (q.which = .staged →
      (∀ e i, s.findEdit q.channel = some e → e.slot = some i → q.staged = some i →
        exec .probeGrant s = .next (pin i (granted none 0#16 (some i)))) ∧
      (s.findEdit q.channel = none → exec .probeGrant s = .next
        { s with probe := .none, response := { s.response with status := .notInEdit, payload := [] } }))

/-- R101, R104, R162: the completion of a lane lookup, in the drain of a load as outside it: the result is queued and
LIMIT raised for LOW or HIGH, unless it is to be dropped; the in-flight count falls; the pinned slot is unpinned,
entering FREE with its cells when DRAINING and unpinned; the context is free. (The completion that ends a drain, that of
the last lookup in flight, is another statement, ReloadAndTableClear. That the drain goes on while the only other lookup
in flight pins no slot, as R99 and R103 say, where R162 names the pins alone, is log entry 13.) -/
def Obligations.LaneCompletionDeliversItsResult : Prop :=
  ∀ (n : LaneIdx) (k : CtxIdx) (l : Lookup) (s : State), s.held = false →
    (∀ v, s.ctl = .loading v → v.stage = .drain → ∃ j, j ≠ k ∧ s.context j ≠ none) →
    s.context k = some l → l.requester = .lane n →
    let r := lookupResult l s.slot
    let lane : Lane :=
      { s.lane n with
        results := if l.drop then (s.lane n).results else (s.lane n).results ++ [r]
        inFlight := (s.lane n).inFlight - 1 }
    let raised : State :=
      if (r.flags.low = true ∨ r.flags.high = true) ∧ l.drop = false then
        s.setReasons l.channel (s.reasonsOf l.channel ||| 0b00010#5)
      else s
    (l.pinned = none → exec (.laneCompletion k) s = .next ((raised.setLane n lane).setContext k none)) ∧
    ∀ i, l.pinned = some i → exec (.laneCompletion k) s = .next
      { ((raised.setLane n lane).setSlot i (s.slot i).unpinned).setContext k none with
        freeCells := s.freeCells +
          if (s.slot i).state = .draining ∧ (s.slot i).pins ≤ 1 then (s.slot i).content.points.length else 0 }

/-- R46, R108, R110, R162, R205: the completion of a probe, in the drain of a load as outside it, puts OK and the nine
result bytes into the buffer, keeping its echoed code, counter and REFUSED_FRAME, and ends the pending state, unless a
Restart dropped it; no reason is raised; the slot is unpinned and the context free. (The completion that ends a drain is
in ReloadAndTableClear. That the drain goes on while the only other lookup in flight pins no slot, as R99 and R103 say,
where R162 names the pins alone, is log entry 13.) -/
def Obligations.ProbeCompletionAnswersTheHost : Prop :=
  ∀ (k : CtxIdx) (l : Lookup) (s : State), s.held = false →
    (∀ v, s.ctl = .loading v → v.stage = .drain → ∃ j, j ≠ k ∧ s.context j ≠ none) →
    s.context k = some l → l.requester = .host →
    let r := lookupResult l s.slot
    let flags : Byte :=
      (if r.flags.clamped then 0x01#8 else 0#8) + (if r.flags.saturated then 0x02#8 else 0#8) +
        (if r.flags.low then 0x04#8 else 0#8) + (if r.flags.high then 0x08#8 else 0#8) +
        if r.flags.expired then 0x10#8 else 0#8
    let quality : Byte :=
      (if r.present then 0x80#8 else 0#8) +
        match r.reason with
        | .none => 0#8
        | .unassigned => 1#8
        | .lost => 2#8
        | .suspect => 3#8
        | .blocked => 4#8
    let told : State :=
      if l.drop then s
      else { s with
        probe := .none
        response := { s.response with
          status := .ok
          payload := [r.tag, BitVec.ofNat 8 r.channel.val] ++ be16 r.revision ++ be24 r.value ++
            [flags, quality] } }
    (l.pinned = none → exec (.probeCompletion k) s = .next (told.setContext k none)) ∧
    ∀ i, l.pinned = some i → exec (.probeCompletion k) s = .next
      { (told.setSlot i (s.slot i).unpinned).setContext k none with
        freeCells := s.freeCells +
          if (s.slot i).state = .draining ∧ (s.slot i).pins ≤ 1 then (s.slot i).content.points.length else 0 }

/-- R38, R40: what a completion decides, the first case that applies: SUSPECT; expired under BLOCK; expired under WARN;
otherwise the value; and the fixed no-value result of a lookup without a slot. Tag, channel and revision are those of
the grant. -/
def Obligations.ResultIsDecidedAtCompletion : Prop :=
  ∀ (l : Lookup) (slotOf : SlotIdx → Slot),
    let r := lookupResult l slotOf
    r.tag = l.tag ∧ r.channel = l.channel ∧ r.revision = l.revision ∧
    (∀ i, l.pinned = some i →
      let sl := slotOf i
      let none : Flags := { clamped := false, saturated := false, low := false, high := false, expired := false }
      (sl.state = .suspect → r.present = false ∧ r.value = 0#24 ∧ r.reason = .suspect ∧ r.flags = none) ∧
      (sl.state ≠ .suspect →
        (sl.expired = true → sl.content.action = .block →
          r.present = false ∧ r.value = 0#24 ∧ r.reason = .blocked ∧ r.flags = { none with expired := true }) ∧
        (sl.expired = true → sl.content.action = .warn →
          r.present = true ∧ r.reason = .none ∧ r.value = (correct sl.content l.raw).1 ∧
            r.flags = { (correct sl.content l.raw).2 with expired := true }) ∧
        (sl.expired = false →
          r.present = true ∧ r.reason = .none ∧ r.value = (correct sl.content l.raw).1 ∧
            r.flags = { (correct sl.content l.raw).2 with expired := false }))) ∧
    (l.pinned = Option.none → r.present = false ∧ r.value = 0#24 ∧ r.flags = Flags.clear ∧
      r.reason = if l.binding = some .lost then .lost else .unassigned)

/-- R29, R30, R31, R32: inside the range the value is interpolated on the lowest segment that holds the raw code,
truncated toward zero; it lies between the segment's two y values and sets neither CLAMPED nor SATURATED. A segment of
zero width gives its y. -/
def Obligations.InsideTheRangeInterpolates : Prop :=
  ∀ (c : Content) (raw : Half) (i : Nat) (p q first last : Point),
    let x := readX c.format raw
    let at' (p : Point) := readX c.format p.x
    c.points.head? = some first → c.points.getLast? = some last → at' first ≤ x → x ≤ at' last →
    c.points[i]? = some p → c.points[i + 1]? = some q → at' p ≤ x → x ≤ at' q →
    (∀ (j : Nat) (u v : Point), j < i → c.points[j]? = some u → c.points[j + 1]? = some v →
      ¬ (at' u ≤ x ∧ x ≤ at' v)) →
    let v := (correct c raw).1.toInt
    v = (if at' p = at' q then p.y.toInt
      else p.y.toInt + Int.tdiv ((x - at' p) * (q.y.toInt - p.y.toInt)) (at' q - at' p)) ∧
    min p.y.toInt q.y.toInt ≤ v ∧ v ≤ max p.y.toInt q.y.toInt ∧
    (correct c raw).2.clamped = false ∧ (correct c raw).2.saturated = false

/-- R33, R34, R35, R36: outside the range CLAMP gives the end point with CLAMPED; EXTEND carries the end segment past
its end point, truncated toward zero and then saturated to -8388608 to 8388607, with SATURATED exactly when that changes
the value; an end segment of zero width gives the end point with CLAMPED. LOW and HIGH compare the saturated value with
the limits that are present, equality setting neither; the limits do not change the value. -/
def Obligations.OutsideTheRangeClampsOrExtends : Prop :=
  (∀ (c : Content) (raw : Half) (p q u v : Point) (rest front : List Point),
     c.points = p :: q :: rest → c.points = front ++ [u, v] →
     let x := readX c.format raw
     let at' (p : Point) := readX c.format p.x
     let result := correct c raw
     let ended (y : Int) : Prop := result.1.toInt = y ∧ result.2.clamped = true ∧ result.2.saturated = false
     let extended (w : Int) : Prop :=
       result.1.toInt = max (-8388608) (min 8388607 w) ∧ result.2.clamped = false ∧
         (result.2.saturated = true ↔ w < -8388608 ∨ 8388607 < w)
     (x < at' p →
       (c.endMode = .clamp → ended p.y.toInt) ∧
       (c.endMode = .extend → at' p = at' q → ended p.y.toInt) ∧
       (c.endMode = .extend → at' p ≠ at' q →
         extended (p.y.toInt + Int.tdiv ((x - at' p) * (q.y.toInt - p.y.toInt)) (at' q - at' p)))) ∧
     (at' p ≤ x → at' v < x →
       (c.endMode = .clamp → ended v.y.toInt) ∧
       (c.endMode = .extend → at' u = at' v → ended v.y.toInt) ∧
       (c.endMode = .extend → at' u ≠ at' v →
         extended (u.y.toInt + Int.tdiv ((x - at' u) * (v.y.toInt - u.y.toInt)) (at' v - at' u))))) ∧
  ∀ (c : Content) (raw : Half),
    let v := (correct c raw).1
    ((correct c raw).2.low = true ↔ ∃ l, c.limits = some l ∧ v.toInt < l.low.toInt) ∧
    ((correct c raw).2.high = true ↔ ∃ l, c.limits = some l ∧ l.high.toInt < v.toInt) ∧
    ∀ limits, (correct { c with limits } raw).1 = v

/-! ### Part time, expiry, the lease, the scrub, upsets -/

/-- R112, R143, R146, R174, R175, R176: a millisecond tick that is no seconds tick, no silence and no step expiry counts
in three places: the millisecond count, the silence timer of the transfer in progress, and the step timer, which stays
at 0 with the scrub off. At a step expiry the first ACTIVE slot from the position, wrapping, is content-checked and the
position moves past it; a check that passes changes nothing else; a mismatch makes the slot SUSPECT, counts, raises
SUSPECT for the channel bound to it and queues that channel, and a repair that may start starts at this event (R146);
with no ACTIVE slot the position stays. (The expiry is stated where the same tick is no second and no silence;
STEP_EXPIRY names such a tick, log entry 7.) -/
def Obligations.MillisecondTickAndStepExpiry : Prop :=
  (∀ (took : Bool) (s : State), s.held = false → s.quietTick →
     exec (.millisecondTick took) s = .next
       { s with
         msCount := s.msCount + 1
         port := s.port.map fun t => { t with ticks := t.ticks + 1 }
         scrubCount := if s.control.step = 0#8 then 0 else s.scrubCount + 1 }) ∧
  ∀ (took : Bool) (s : State), s.held = false → s.msCount < 999 → (∀ t ∈ s.port, t.ticks < 24) →
    s.control.step ≠ 0#8 → s.scrubCount + 1 = s.control.step.toNat →
    let ticked : State :=
      { s with
        msCount := s.msCount + 1, scrubCount := 0
        port := s.port.map fun t => { t with ticks := t.ticks + 1 } }
    exec (.stepExpiry took) s = exec (.millisecondTick took) s ∧
    ((∀ i, (s.slot i).state ≠ .active) → exec (.stepExpiry took) s = .next ticked) ∧
    ∀ d : Fin 128,
      let i := s.scrubPos + d
      (s.slot i).state = .active → (∀ e < d, (s.slot (s.scrubPos + e)).state ≠ .active) →
      (contentCrc (s.slot i).content = (s.slot i).content.crc →
        exec (.stepExpiry took) s = .next { ticked with scrubPos := i + 1 }) ∧
      (contentCrc (s.slot i).content ≠ (s.slot i).content.crc → s.bindingLaw →
        ∀ c, (s.entry c).binding = .bound i → exec (.stepExpiry took) s = .next
          (State.withRepair
            { (ticked.setSlot i { s.slot i with state := .suspect }).setReasons c (s.reasonsOf c ||| 0b00100#5) with
              scrubPos := i + 1
              mismatches := if s.mismatches < 255 then s.mismatches + 1 else 255
              repairQueue :=
                if c ∈ s.repairQueue ∨ 8 ≤ s.repairQueue.length then s.repairQueue else s.repairQueue ++ [c] }))

/-- R65, R67, R113, R116, R146, R174, R175, R176: the tick that takes the millisecond count past 999 is a seconds tick:
part time advances, saturating at 4294967295; a COUNTING lease counts; every ACTIVE or SUSPECT slot whose due time is
reached and whose flag is clear is flagged, and EXPIRED is raised for the channel bound to it. The seconds tick that
brings the count to the lease also discards every entry, unpinned staged slots entering FREE with their cells and pinned
ones DRAINING, stops the timer and latches LEASE_LAPSED; it changes no map entry and no epoch (with a lease of 1 second
the first tick after a restart is that tick, log entry 27). The same tick counts in the step timer, and where that
brings a step expiry the first ACTIVE slot from the position is content-checked, with the four effects of a mismatch and
the start of a repair that may start. (Stated for a tick that is no silence. That SECONDS_TICK, LEASE_LAPSE and
STEP_EXPIRY name such a millisecond tick, and that the scrub's part of it comes last, is log entry 7.) -/
def Obligations.SecondsTickAdvancesPartTime : Prop :=
  ∀ (took : Bool) (s : State), s.held = false → s.msCount = 999 → (∀ p ∈ s.port, p.ticks < 24) →
    let lapses : Prop := ∃ l k, s.lease = .counting l k ∧ k + 1 = l.toNat
    (lapses → s.editLaw) →
    let now := if s.partTime = 4294967295#32 then s.partTime else s.partTime + 1#32
    let due (i : SlotIdx) : Prop :=
      ((s.slot i).state = .active ∨ (s.slot i).state = .suspect) ∧ (s.slot i).expired = false ∧
        ∃ d, (s.slot i).content.due = some d ∧ d.toNat ≤ now.toNat
    ∃ u t : State, exec (.secondsTick took) s = .next t ∧ exec (.millisecondTick took) s = .next t ∧
      (lapses → exec (.leaseLapse took) s = .next t) ∧
      u = { s with partTime := now, msCount := 0, edits := u.edits, lease := u.lease, slots := u.slots
                   freeCells := u.freeCells, reasons := u.reasons, causes := u.causes
                   port := s.port.map fun p => { p with ticks := p.ticks + 1 } } ∧
      (¬ lapses → u.edits = s.edits ∧ u.freeCells = s.freeCells ∧ u.causes = s.causes ∧
        (∀ l k, s.lease = .counting l k → u.lease = .counting l (k + 1)) ∧
        ((∀ l k, s.lease ≠ .counting l k) → u.lease = s.lease)) ∧
      (lapses → u.edits = [] ∧ u.lease = .stopped ∧ u.causes = s.causes ||| 0b001#3 ∧
        u.freeCells + u.cellsUsed = s.freeCells + s.cellsUsed ∧
        ∀ i, (s.slot i).state = .staged → u.slot i = (s.slot i).released) ∧
      (∀ i, due i → u.slot i = { s.slot i with expired := true }) ∧
      (∀ i, ¬ due i → ¬ (lapses ∧ (s.slot i).state = .staged) → u.slot i = s.slot i) ∧
      (∀ c i, (s.entry c).binding = .bound i → due i → u.reasonsOf c = s.reasonsOf c ||| 0b00001#5) ∧
      (∀ c, (∀ i, (s.entry c).binding = .bound i → ¬ due i) → u.reasonsOf c = s.reasonsOf c) ∧
      (s.control.step = 0#8 → t = { u with scrubCount := 0 }) ∧
      (s.control.step ≠ 0#8 → s.scrubCount + 1 < s.control.step.toNat →
        t = { u with scrubCount := s.scrubCount + 1 }) ∧
      (s.control.step ≠ 0#8 → s.scrubCount + 1 = s.control.step.toNat → exec (.stepExpiry took) s = .next t ∧
        ((∀ i, (u.slot i).state ≠ .active) → t = { u with scrubCount := 0 }) ∧
        ∀ d : Fin 128,
          let i := s.scrubPos + d
          (u.slot i).state = .active → (∀ e < d, (u.slot (s.scrubPos + e)).state ≠ .active) →
          (contentCrc (u.slot i).content = (u.slot i).content.crc →
            t = { u with scrubCount := 0, scrubPos := i + 1 }) ∧
          (contentCrc (u.slot i).content ≠ (u.slot i).content.crc → s.bindingLaw →
            ∀ c, (s.entry c).binding = .bound i → t = State.withRepair
              { (u.setSlot i { u.slot i with state := .suspect }).setReasons c (u.reasonsOf c ||| 0b00100#5) with
                scrubCount := 0, scrubPos := i + 1
                mismatches := if s.mismatches < 255 then s.mismatches + 1 else 255
                repairQueue :=
                  if c ∈ s.repairQueue ∨ 8 ≤ s.repairQueue.length then s.repairQueue else s.repairQueue ++ [c] }))

/-- R114, R116, R123: Set Time writes part time, returns the millisecond count to 0, sweeps, and answers with the
previous and the new part time and the number of slots this sweep flagged; nothing else changes. -/
def Obligations.SetTimeSweeps : Prop :=
  ∀ (now : Word) (s : State), s.hears →
    let due (i : SlotIdx) : Prop :=
      ((s.slot i).state = .active ∨ (s.slot i).state = .suspect) ∧ (s.slot i).expired = false ∧
        ∃ d, (s.slot i).content.due = some d ∧ d.toNat ≤ now.toNat
    ∃ (t : State) (flagged : List SlotIdx),
      exec (.setTime now) s = .next
        (State.answered { s with partTime := now, msCount := 0, slots := t.slots, reasons := t.reasons } .setTime .ok
          (be32 s.partTime ++ be32 now ++ [BitVec.ofNat 8 flagged.length])) ∧
      flagged.Nodup ∧ (∀ i, i ∈ flagged ↔ due i) ∧
      (∀ i, due i → t.slot i = { s.slot i with expired := true }) ∧
      (∀ i, ¬ due i → t.slot i = s.slot i) ∧
      (∀ c i, (s.entry c).binding = .bound i → due i → t.reasonsOf c = s.reasonsOf c ||| 0b00001#5) ∧
      (∀ c, (∀ i, (s.entry c).binding = .bound i → ¬ due i) → t.reasonsOf c = s.reasonsOf c)

/-- R18, R117: the expired flag of a slot that holds an installed or superseded record is cleared by no event but the
slot's entry into FREE. -/
def Obligations.ExpiredFlagStays : Prop :=
  ∀ (s t : State) (i : SlotIdx), s.editLaw → step s = .next t →
    (s.slot i).state = .active ∨ (s.slot i).state = .suspect ∨ (s.slot i).state = .draining →
    (s.slot i).expired = true → (t.slot i).expired = true ∨ (t.slot i).state = .free

/-- R19: an upset alters the content of one slot that is not FREE, and nothing else: no state, pin, flag, map entry,
cell or epoch. That contents with another number of points or a field outside its values are no upset, and that one with
a label of another length is, is the model's reading (log entry 22). -/
def Obligations.UpsetAltersOneContent : Prop :=
  ∀ (i : SlotIdx) (c : Content) (s : State),
    ((s.slot i).state ≠ .free → c.points.length = (s.slot i).content.points.length → c.stated = true →
      exec (.upset i c) s = .next (s.setSlot i { s.slot i with content := c })) ∧
    ((s.slot i).state = .free ∨ c.points.length ≠ (s.slot i).content.points.length → exec (.upset i c) s = .next s)

/-! ### Attention and the output lines -/

/-- R134: Read Attention reports the causes, the number of members, the level of ATTN and the lowest member at or above
the start with every reason it holds, or that there is none, and changes no state. (The reasons byte beside "none" is
left open here; the model's is log entry 16.) -/
def Obligations.ReadAttentionReportsTheLowestMember : Prop :=
  ∀ (start : Channel) (s : State), s.hears →
    ∃ members : List Channel, members.Nodup ∧ (∀ c, c ∈ members ↔ s.reasonsOf c ≠ 0#5) ∧
      let head := [s.causes.zeroExtend 8] ++ be16 (BitVec.ofNat 16 members.length) ++ [if s.attn then 1#8 else 0#8]
      (∀ c, start ≤ c → s.reasonsOf c ≠ 0#5 → (∀ d, start ≤ d → d < c → s.reasonsOf d = 0#5) →
        exec (.readAttention start) s = .next (s.answered .readAttention .ok
          (head ++ [1#8, BitVec.ofNat 8 c.val, (s.reasonsOf c).zeroExtend 8]))) ∧
      ((∀ c, start ≤ c → s.reasonsOf c = 0#5) → ∃ fill : Byte,
        exec (.readAttention start) s = .next (s.answered .readAttention .ok (head ++ [0#8, 0#8, fill])))

/-- R135, R136: Clear Reasons removes the selected reasons from the channel and leaves every other; Clear Causes clears
the selected causes and keeps the others. A selection of any other code is refused and changes nothing; the response
carries the channel and the reasons left, or the causes as they stand. -/
def Obligations.ClearReasonsAndCausesRemoveTheSelected : Prop :=
  (∀ (c : Channel) (selection : Byte) (s : State), s.hears →
     (32 ≤ selection.toNat → exec (.clearReasons c selection) s = .next (s.answered .clearReasons .badParam [])) ∧
     (selection.toNat < 32 → ∃ left : Reasons,
       (∀ b : Fin 5, left.getLsbD b = ((s.reasonsOf c).getLsbD b && !selection.getLsbD b)) ∧
       exec (.clearReasons c selection) s = .next
         (State.answered (s.setReasons c left) .clearReasons .ok [BitVec.ofNat 8 c.val, left.zeroExtend 8]))) ∧
  ∀ (selection : Byte) (s : State), s.hears →
    (8 ≤ selection.toNat → exec (.clearCauses selection) s = .next (s.answered .clearCauses .badParam [])) ∧
    (selection.toNat < 8 → ∃ left : Causes,
      (∀ b : Fin 3, left.getLsbD b = (s.causes.getLsbD b && !selection.getLsbD b)) ∧
      exec (.clearCauses selection) s = .next
        (State.answered { s with causes := left } .clearCauses .ok [left.zeroExtend 8]))

/-- R90, R92, R93, R133, R205: the levels of the output lines: ATTN, and each lane's ready, valid with its result word,
and result-ready. (Ready is withdrawn while the device is held in reset, log entry 12.) -/
def Obligations.OutputLinesFollowTheState : Prop :=
  ∀ s : State,
    (s.attn = true ↔
      (∃ (c : Channel) (b : Fin 5), (s.reasonsOf c).getLsbD b = true ∧ s.control.reasonMask.getLsbD b = true) ∨
        ∃ b : Fin 3, s.causes.getLsbD b = true ∧ s.control.causeMask.getLsbD b = true) ∧
    ∀ n : LaneIdx,
      (s.laneReady n = true ↔
        s.held = false ∧ s.control.laneEnable.get n = true ∧ (s.lane n).requests.length < 8) ∧
      (s.laneValid n = true ↔ (s.lane n).results ≠ []) ∧
      (∀ r rest, (s.lane n).results = r :: rest →
        let flags : Byte :=
          (if r.flags.clamped then 0x01#8 else 0#8) + (if r.flags.saturated then 0x02#8 else 0#8) +
            (if r.flags.low then 0x04#8 else 0#8) + (if r.flags.high then 0x08#8 else 0#8) +
            if r.flags.expired then 0x10#8 else 0#8
        let quality : Byte :=
          (if r.present then 0x80#8 else 0#8) +
            match r.reason with
            | .none => 0#8
            | .unassigned => 1#8
            | .lost => 2#8
            | .suspect => 3#8
            | .blocked => 4#8
        s.laneWord n = some
          (r.tag ++ BitVec.ofNat 8 r.channel.val ++ r.revision ++ r.value ++ flags ++ quality)) ∧
      (1 ≤ (s.control.threshold.get n).toNat →
        (s.resultReady n = true ↔ (s.control.threshold.get n).toNat ≤ (s.lane n).results.length))

/-! ### Saving -/

/-- R144, R146, R147, R154: Save, its refusals and its start; Stop Save, its refusal and the end it makes: outcome
STOPPED with the phase, SAVE_END, a read abandoned, a page write left to finish, and the start of a repair that waits.
-/
def Obligations.SaveAndStopSave : Prop :=
  ∀ s : State, s.hears →
    (s.ctl ≠ .idle → exec .save s = .next (s.answered .save .storeBusy [])) ∧
    (s.ctl = .idle → (∃ i, (s.slot i).state = .suspect) →
      exec .save s = .next (s.answered .save .suspectPresent [])) ∧
    (s.ctl = .idle → (∀ i, (s.slot i).state ≠ .suspect) → exec .save s = .next
      (State.answered
        { s with
          ctl := .saving { stage := .readA, epoch := s.epoch, last := none, rest := [], done := 0, written := [] }
          port := s.portWithFirstRead }
        .save .accepted [])) ∧
    ((∀ v, s.ctl ≠ .saving v) → exec .stopSave s = .next (s.answered .stopSave .wrongState [])) ∧
    ∀ v, s.ctl = .saving v →
      let phase : Byte :=
        match v.stage.phase with
        | .invalidate => 0x00#8
        | .body => 0x01#8
        | .header => 0x02#8
      exec .stopSave s = .next
        (State.answered
          (State.withRepair
            { s with
              ctl := .idle, causes := s.causes ||| 0b010#3, port := s.portLeft
              lastSave := .stopped v.stage.phase v.stage.area v.done })
          .stopSave .ok (phase :: be32 (BitVec.ofNat 32 v.done)))

/-- R141, R148: the header reads of a save: after area A's the read of area B's is issued; after area B's the target is
chosen and four zero bytes are written at its first address. The newest valid image of two, its generation compared
serially, and the target and generation a save takes from it. -/
def Obligations.SaveChoosesItsTarget : Prop :=
  (∀ (v : SaveState) (bytes : List Byte) (s : State), s.held = false → s.ctl = .saving v → s.reads bytes →
     (v.stage = .readA → exec .saveHeaderReadCompletion s = .next
       { s with
         ctl := .saving { v with stage := .readB (parseHeader bytes) }
         port := some { address := 32768, kind := .read 64, finishing := false, ticks := 0 } }) ∧
     ∀ a, v.stage = .readB a →
       let t := saveTarget a (parseHeader bytes)
       exec .saveHeaderReadCompletion s = .next
         { s with
           ctl := .saving { v with stage := .invalidate t }
           port := some { address := match t.area with
                                     | .a => 0
                                     | .b => 32768
                          kind := .write [0#8, 0#8, 0#8, 0#8], finishing := false, ticks := 0 } }) ∧
  newest none none = none ∧
  (∀ h, newest (some h) none = some (.a, h) ∧ newest none (some h) = some (.b, h)) ∧
  (∀ ha hb : Header,
    let difference := (hb.generation.toNat + 4294967296 - ha.generation.toNat) % 4294967296
    newest (some ha) (some hb) =
      if 1 ≤ difference ∧ difference ≤ 2147483647 then some (.b, hb) else some (.a, ha)) ∧
  saveTarget none none = { area := .a, generation := 1#32 } ∧
  ∀ (a b : Option Header) (h : Header),
    (newest a b = some (.a, h) → saveTarget a b = { area := .b, generation := h.generation + 1#32 }) ∧
    (newest a b = some (.b, h) → saveTarget a b = { area := .a, generation := h.generation + 1#32 })

/-- R149, R151: the invalidating write and each body page write complete: the bytes are in the store, and the next page
is the next 64 bytes (or what is left) of the record images of the BOUND channels in ascending order, at the next body
address; after the last, the whole header is written with a zero marker. (Stated where every record still to be read is
ACTIVE and sound.) -/
def Obligations.SaveWritesTheBodyInPages : Prop :=
  ∀ (v : SaveState) (t : Target) (data : List Byte) (store : List Host.Cell) (s : State), s.held = false →
    s.ctl = .saving v → s.writes data store → s.bodySound v →
    let pages (event : Instr) (completed : Nat) : Prop :=
      let left := s.bodyLeft v
      (left = [] → exec event s = .next
        { s with
          store := store, ctl := .saving { v with stage := .header t, done := completed }
          port := some { address := t.area.base, finishing := false, ticks := 0
                         kind := .write (headerImage t.generation v.epoch completed v.written) } }) ∧
      (left ≠ [] → ∃ w : SaveState,
        exec event s = .next
          { s with
            store := store, ctl := .saving w
            port := some { address := t.area.base + 64 + completed, kind := .write (left.take 64), finishing := false
                           ticks := 0 } } ∧
        w.stage = .body t ∧ w.epoch = v.epoch ∧ w.done = completed ∧ s.bodyLeft w = left.drop 64 ∧
        w.written ++ s.channelsLeft w.last = v.written ++ s.channelsLeft v.last)
    (v.stage = .invalidate t → pages .invalidateWriteCompletion v.done) ∧
    (v.stage = .body t → pages .bodyWriteCompletion (v.done + data.length))

/-- R150, R151, R152, R153: the first header write completes and the marker "VRGI" is written alone; the marker write
completes and the save ends DONE with the generation, the epoch, the record count and the body length; any silence ends
it FAILED_STORE, and the store then holds what it held, or the silent write within what R148 and R153 allow. A save that
meets a damaged record, at the first byte of a page or after bytes of sound records, ends FAILED_CORRUPT at the event
that assembles the page, with nothing issued: a mismatch found by this check has its four effects; a slot already
SUSPECT is not checked again. A repair that may start starts at the end's event (R146). (That SAVE_STORE_SILENCE
names the 25th tick is log entry 7; that a write of any phase that falls silent was taken whole or not at all is log
entry 5.) -/
def Obligations.SaveEndsDoneOrFailed : Prop :=
  ((∀ (v : SaveState) (t : Target) (data : List Byte) (store : List Host.Cell) (s : State), s.held = false →
     s.ctl = .saving v → s.writes data store →
     (v.stage = .header t → exec .headerWriteCompletion s = .next
       { s with
         store := store, ctl := .saving { v with stage := .marker t }
         port := some { address := t.area.base, kind := .write [0x56#8, 0x52#8, 0x47#8, 0x49#8], finishing := false
                        ticks := 0 } }) ∧
     (v.stage = .marker t → exec .markerWriteCompletion s = .next
       (State.withRepair
         { s with
           store := store, port := none, ctl := .idle, causes := s.causes ||| 0b010#3
           lastSave := .done t.area t.generation v.epoch v.written.length v.done }))) ∧
   ∀ (v : SaveState) (p : Transfer) (took : Bool) (s : State), s.silentTick p → p.finishing = false →
     s.ctl = .saving v →
     ∃ store : List Host.Cell, exec (.saveStoreSilence took) s = .next
         (State.withRepair
           { s.ticked with
             ctl := .idle, causes := s.causes ||| 0b010#3, store := store
             lastSave := .failedStore v.stage.phase v.stage.area v.done }) ∧
       (took = false → store = s.store) ∧
       (∀ n, p.kind = .read n → store = s.store) ∧
       ∀ data, p.kind = .write data → store = s.store ∨
         store = Mem.writeBytes s.store p.address data ∧ Mem.image store (areaOfAddress p.address) = none) ∧
  ∀ (v : SaveState) (t : Target) (data : List Byte) (store : List Host.Cell) (before after : List Channel) (c : Channel)
    (i : SlotIdx) (s : State), s.held = false → s.ctl = .saving v → s.writes data store → s.bindingLaw →
    s.channelsLeft v.last = before ++ c :: after →
    (∀ d ∈ before, ∀ j, (s.entry d).binding = .bound j →
      (s.slot j).state = .active ∧ contentCrc (s.slot j).content = (s.slot j).content.crc) →
    (v.rest ++ before.flatMap fun d =>
      match (s.entry d).binding with
      | .bound j => recordImage (s.slot j).content
      | .unassigned | .lost => []).length < 64 →
    (s.entry c).binding = .bound i →
    let failed (event : Instr) (completed : Nat) : Prop :=
      let ended : State :=
        { s with
          store := store, port := none, ctl := .idle, causes := s.causes ||| 0b010#3
          lastSave := .failedCorrupt c t.area completed }
      ((s.slot i).state = .suspect → exec event s = .next ended.withRepair) ∧
      ((s.slot i).state = .active → contentCrc (s.slot i).content ≠ (s.slot i).content.crc → exec event s = .next
        (State.withRepair
          { (ended.setSlot i { s.slot i with state := .suspect }).setReasons c (s.reasonsOf c ||| 0b00100#5) with
            mismatches := if s.mismatches < 255 then s.mismatches + 1 else 255
            repairQueue :=
              if c ∈ s.repairQueue ∨ 8 ≤ s.repairQueue.length then s.repairQueue else s.repairQueue ++ [c] }))
    (v.stage = .invalidate t → failed .invalidateWriteCompletion v.done) ∧
    (v.stage = .body t → failed .bodyWriteCompletion (v.done + data.length))

/-- R143, R144: a finishing write completes or falls silent and the port is free; the first transfer of an operation
that waited for it is issued at that event; a deferred transfer is issued only while the port is free. A write that fell
silent was taken or not, within what R153 allows (log entry 5). (That FINISHING_WRITE_SILENCE names a millisecond tick,
which counts in the time base and the step timer too, is log entry 7; that a marker write completes as a finishing write
is log entry 14.) -/
def Obligations.FinishingWriteFreesThePort : Prop :=
  ∀ (p : Transfer) (data : List Byte) (s : State),
    let first : Option Transfer := some { address := 0, kind := .read 64, finishing := false, ticks := 0 }
    let waits := (∃ v, s.ctl = .saving v ∧ v.stage = .readA) ∨ (∃ l, s.ctl = .loading l ∧ l.stage = .readA) ∨
      ∃ r, s.ctl = .repairing r ∧ r.stage = .readA
    (p.finishing = true → p.kind = .write data → s.held = false → s.port = some p →
      let store := Mem.writeBytes s.store p.address data
      (waits → exec .finishingWriteCompletion s = .next { s with store := store, port := first }) ∧
      (¬ waits → exec .finishingWriteCompletion s = .next { s with store := store, port := none })) ∧
    (p.finishing = true → p.kind = .write data → s.silentTick p → ∀ took : Bool, ∃ store : List Host.Cell,
      (took = false → store = s.store) ∧
      (store = s.store ∨
        store = Mem.writeBytes s.store p.address data ∧ Mem.image store (areaOfAddress p.address) = none) ∧
      (waits → exec (.finishingWriteSilence took) s = .next { s.ticked with store := store, port := first }) ∧
      (¬ waits → exec (.finishingWriteSilence took) s = .next { s.ticked with store := store })) ∧
    (s.held = false → s.port = some p → exec .deferredTransferIssue s = .next s) ∧
    (s.held = false → s.port = none →
      (waits → exec .deferredTransferIssue s = .next { s with port := first }) ∧
      (¬ waits → exec .deferredTransferIssue s = .next s))

/-- R138, R139, R140, R151, R167, R203, R206: what a save writes reads back. The header with its zero marker is no valid
image; with the marker written it is valid and carries the same fields. The record image of a record that passes the
field rules has 18 + L + 5n bytes, passes the CRC and field checks of a load, and decodes to the same content. Which 64
bytes are the header of a valid image, and what it then says: the five conditions of R140. Which images have valid
fields: those that no condition of R167 makes invalid. -/
def Obligations.ImagesReadBack : Prop :=
  (∀ (generation epoch : Word) (bodyLength : Nat) (written : List Channel), written.Pairwise (· < ·) →
    written.length ≤ 128 → bodyLength ≤ 32704 →
    let image := headerImage generation epoch bodyLength written
    image.length = 64 ∧ parseHeader image = none ∧
    parseHeader ([0x56#8, 0x52#8, 0x47#8, 0x49#8] ++ image.drop 4) =
      some { generation, epoch, count := written.length, bodyLength, presence := written }) ∧
  (∀ c : Content, 2 ≤ c.points.length → c.points.length ≤ 32 → c.label.length ≤ 15 →
    (∀ b ∈ c.label, 0x20#8 ≤ b ∧ b ≤ 0x7E#8) → contentOrdered c = true → contentLimitsOk c = true →
    c.due ≠ some 0#32 →
    let head := (recordImage c).take 18
    let tail := (recordImage c).drop 18
    (recordImage c).length = 18 + c.label.length + 5 * c.points.length ∧
    imageCrc head tail = (decodeHead head).crc ∧ fieldsValid head tail = true ∧
    decodeRecord head tail = { c with crc := contentCrc c }) ∧
  (∀ bytes : List Byte, bytes.length = 64 →
    let number (offset size : Nat) : Nat :=
      ((bytes.drop offset).take size).foldl (fun n b => 256 * n + b.toNat) 0
    let marked : List Channel :=
      (List.finRange 256).filter fun c => (bytes.getD (18 + c.val / 8) 0#8).getLsbD (7 - c.val % 8)
    let valid := bytes.take 4 = [0x56#8, 0x52#8, 0x47#8, 0x49#8] ∧
      bytes.drop 62 = be16 (deviceCrc (bytes.take 62)) ∧ number 12 2 ≤ 128 ∧ number 12 2 = marked.length ∧
      number 14 4 ≤ 32704
    (¬ valid → parseHeader bytes = none) ∧
    (valid → ∃ h : Header, parseHeader bytes = some h ∧ h.generation.toNat = number 4 4 ∧ h.epoch.toNat = number 8 4 ∧
      h.count = number 12 2 ∧ h.bodyLength = number 14 4 ∧ h.presence = marked)) ∧
  ∀ head tail : List Byte, head.length = 18 →
    let n := (head.getD 4 0#8).toNat
    let l := (head.getD 5 0#8).toNat
    let mode := head.getD 3 0#8
    let x (j : Nat) : Int := readX (if mode.getLsbD 0 then .s16 else .u16)
      (tail.getD (l + 5 * j) 0#8 ++ tail.getD (l + 5 * j + 1) 0#8)
    let limit (offset : Nat) : BitVec 24 :=
      head.getD offset 0#8 ++ head.getD (offset + 1) 0#8 ++ head.getD (offset + 2) 0#8
    tail.length = l + 5 * n →
    (fieldsValid head tail = true ↔
      2 ≤ n ∧ n ≤ 32 ∧ l ≤ 15 ∧ (∀ b ∈ tail.take l, 0x20#8 ≤ b ∧ b ≤ 0x7E#8) ∧ mode.toNat < 32 ∧
      (∀ j, j + 1 < n → x j < x (j + 1)) ∧ (mode.getLsbD 3 = true → (limit 6).toInt < (limit 9).toInt) ∧
      (mode.getLsbD 4 = true → (head.drop 12).take 4 ≠ List.replicate 4 0x00#8) ∧
      (mode.getLsbD 3 = false → (head.drop 6).take 6 = List.replicate 6 0x00#8) ∧
      (mode.getLsbD 4 = false → (head.drop 12).take 4 = List.replicate 4 0x00#8))

/-! ### Loading -/

/-- R103, R161, R162, R163, R173: Reload, its refusals, and its start: LOADING with the engine hold set; the table clear
at the start event, or once no slot is pinned and no lookup is in flight, with phase HEADERS and area A's header read.
The completion of the last lookup in flight ends the drain: its result is delivered unless it is to be dropped, and the
table is clear at that event. (That a lookup granted without a slot is waited for too, as R99 and R103 say, where R162
names the pins alone, is log entry 13.) -/
def Obligations.ReloadAndTableClear : Prop :=
  ∀ s : State,
    (s.hears →
      (s.ctl ≠ .idle → exec .reload s = .next (s.answered .reload .storeBusy [])) ∧
      (s.ctl = .idle → s.edits ≠ [] → exec .reload s = .next (s.answered .reload .editOpen [])) ∧
      (s.ctl = .idle → s.edits = [] →
        ((∃ i, (s.slot i).pins ≠ 0) ∨ (∃ k, s.context k ≠ none) → exec .reload s = .next
          (State.answered
            { s with hold := true, ctl := .loading { stage := .drain, installed := 0, lost := 0 } }
            .reload .accepted [])) ∧
        ((∀ i, (s.slot i).pins = 0) → (∀ k, s.context k = none) → exec .reload s = .next
          (State.answered { s.cleared with hold := true } .reload .accepted [])))) ∧
    (s.held = false → ∀ v, s.ctl = .loading v → v.stage = .drain →
      ((∀ i, (s.slot i).pins = 0) → (∀ k, s.context k = none) → exec .tableClear s = .next s.cleared) ∧
      ((∃ i, (s.slot i).pins ≠ 0) ∨ (∃ k, s.context k ≠ none) → exec .tableClear s = .next s) ∧
      ∀ (k : CtxIdx) (l : Lookup), s.context k = some l → (∀ j, j ≠ k → s.context j = none) →
        (∀ i, (s.slot i).pins = if l.pinned = some i then 1 else 0) →
        (∀ n : LaneIdx, l.requester = .lane n → exec (.laneCompletion k) s = .next
          ((s.cleared.setLane n
            { s.lane n with
              results := if l.drop then (s.lane n).results else (s.lane n).results ++ [lookupResult l s.slot]
              inFlight := (s.lane n).inFlight - 1 }).setContext k none)) ∧
        (l.requester = .host → l.drop = true →
          exec (.probeCompletion k) s = .next (s.cleared.setContext k none)))

/-- R112, R143, R146, R164, R171, R174: the header reads of a load, at their completion or, for a header that falls
silent, with that area holding no valid image: after area A the read of area B is issued; after area B the newest valid
image is chosen, and the walk begins at its lowest channel with the read of 18 head bytes, or the load ends LOADED with
no channel listed, or NO_IMAGE with epoch 0; a repair that may start starts at the end's event. (That
LOAD_HEADER_SILENCE is the millisecond tick itself, which counts in the time base and the step timer too, is log entry
7.) -/
def Obligations.LoadReadsTheHeaders : Prop :=
  ∀ (l : LoadState) (s : State), s.ctl = .loading l →
    let judged (event : Instr) (base : State) (found : Option Header) : Prop :=
      (l.stage = .readA → exec event s = .next
        { base with
          ctl := .loading { l with stage := .readB found }
          port := some { address := 32768, kind := .read 64, finishing := false, ticks := 0 } }) ∧
      ∀ a, l.stage = .readB a →
        (newest a found = none → exec event s = .next
          (State.withRepair
            { base with
              ctl := .idle, hold := false, epoch := 0#32, causes := s.causes ||| 0b100#3, lastLoad := .noImage })) ∧
        ∀ area h, newest a found = some (area, h) →
          (h.presence = [] → exec event s = .next
            (State.withRepair
              { base with
                ctl := .idle, hold := false, epoch := h.epoch, causes := s.causes ||| 0b100#3
                lastLoad := .loaded area h.generation h.epoch h.count })) ∧
          ∀ c later, h.presence = c :: later → exec event s = .next
            { base with
              ctl := .loading { stage := .head { area, header := h, expected := c, later, offset := 0 }
                                installed := 0, lost := 0 }
              port := some { address := area.base + 64, kind := .read 18, finishing := false, ticks := 0 } }
    (∀ bytes, s.held = false → s.reads bytes →
      judged .loadHeaderReadCompletion { s with port := none } (parseHeader bytes)) ∧
    ∀ p n, s.silentTick p → p.finishing = false → p.kind = .read n → judged .loadHeaderSilence s.ticked none

/-- R112, R143, R146, R165, R166, R170, R174: a head that names the expected channel with a revision other than 0 and a
length within the body has its tail read; a tail of 0 bytes issues no transfer and its record, which lists no point, is
judged at this event; any other head ends the load PARTIAL, and the silence of a head or tail read ends it STORE_FAULT:
the expected channel and every listed one above it are LOST with revision 0, the epoch is the image's, the hold is clear
and LOAD_END latched; a repair that may start starts at the end's event. (That LOAD_WALK_SILENCE is the millisecond tick
itself, which counts in the time base and the step timer too, is log entry 7.) -/
def Obligations.LoadHeadsAndBrokenWalks : Prop :=
  ∀ (l : LoadState) (w : Walk) (s : State), s.ctl = .loading l →
    let broken (event : Instr) (base : State) (outcome : Nat → LoadOutcome) : Prop :=
      ∃ t : State, s.lostOnly t (w.expected :: w.later) ∧ exec event s = .next
        (State.withRepair
          { base with
            map := t.map, reasons := t.reasons, ctl := .idle, hold := false, epoch := w.header.epoch
            causes := s.causes ||| 0b100#3, lastLoad := outcome (l.lost + 1 + w.later.length) })
    (∀ head, s.held = false → s.reads head → l.stage = .head w →
      let h := decodeHead head
      let trusted := h.channel = w.expected ∧ h.revision ≠ 0#16 ∧
        w.offset + (18 + (h.labelLen + 5 * h.count)) ≤ w.header.bodyLength
      let partly := broken .loadHeadReadCompletion { s with port := none }
        fun lost => .part w.area w.header.generation w.header.epoch l.installed lost
      (trusted → 0 < h.labelLen + 5 * h.count → exec .loadHeadReadCompletion s = .next
        { s with
          ctl := .loading { l with stage := .tail w head }
          port := some { address := w.area.base + 64 + w.offset + 18, kind := .read (h.labelLen + 5 * h.count)
                         finishing := false, ticks := 0 } }) ∧
      (¬ trusted → partly) ∧
      (trusted → h.labelLen + 5 * h.count = 0 →
        (imageCrc head [] ≠ h.crc → partly) ∧
        (imageCrc head [] = h.crc →
          let lost : State :=
            (s.setEntry w.expected { binding := .lost, revision := h.revision }).setReasons w.expected
              (s.reasonsOf w.expected ||| 0b10000#5)
          (∀ c later, w.later = c :: later → exec .loadHeadReadCompletion s = .next
            { lost with
              ctl := .loading
                { stage := .head { area := w.area, header := w.header, expected := c, later, offset := w.offset + 18 }
                  installed := l.installed, lost := l.lost + 1 }
              port := some { address := w.area.base + 64 + (w.offset + 18), kind := .read 18, finishing := false
                             ticks := 0 } }) ∧
          (w.later = [] → exec .loadHeadReadCompletion s = .next
            (State.withRepair
              { lost with
                ctl := .idle, port := none, hold := false, epoch := w.header.epoch, causes := s.causes ||| 0b100#3
                lastLoad := .part w.area w.header.generation w.header.epoch l.installed (l.lost + 1) }))))) ∧
    ∀ p n, s.silentTick p → p.finishing = false → p.kind = .read n →
      (l.stage = .head w ∨ ∃ head, l.stage = .tail w head) →
      broken .loadWalkSilence s.ticked
        fun lost => .storeFault w.area w.header.generation w.header.epoch l.installed lost

/-- R146, R166, R167, R168, R169, R171: the tail of the expected record. A CRC that differs ends the load PARTIAL with
the rest LOST. A record whose fields fail, or for which a slot or the cells are missing, leaves its channel LOST with
the head's revision and the walk goes on. Otherwise the lowest FREE slot and n cells are taken, the channel is BOUND
under the record's revision, and a due time not after part time leaves it expired with EXPIRED raised. The walk goes on
at the offset after the record, or ends LOADED, or PARTIAL where a channel was lost; a repair that may start starts at
the end's event. -/
def Obligations.LoadTailInstallsOrLoses : Prop :=
  ∀ (l : LoadState) (w : Walk) (head tail : List Byte) (s : State), s.held = false → s.ctl = .loading l →
    l.stage = .tail w head → s.reads tail → (decodeHead head).channel = w.expected →
    let h := decodeHead head
    let c := decodeRecord head tail
    let next (t : State) (installed lost : Nat) : Prop :=
      let offset := w.offset + (18 + (h.labelLen + 5 * h.count))
      (∀ d later, w.later = d :: later → exec .loadTailReadCompletion s = .next
        { t with
          ctl := .loading { stage := .head { area := w.area, header := w.header, expected := d, later, offset }
                            installed, lost }
          port := some { address := w.area.base + 64 + offset, kind := .read 18, finishing := false, ticks := 0 } }) ∧
      (w.later = [] → exec .loadTailReadCompletion s = .next
        (State.withRepair
          { t with
            ctl := .idle, port := none, hold := false, epoch := w.header.epoch, causes := s.causes ||| 0b100#3
            lastLoad := if lost = 0 then .loaded w.area w.header.generation w.header.epoch w.header.count
                        else .part w.area w.header.generation w.header.epoch installed lost }))
    let lost : State :=
      (s.setEntry w.expected { binding := .lost, revision := h.revision }).setReasons w.expected
        (s.reasonsOf w.expected ||| 0b10000#5)
    (imageCrc head tail ≠ h.crc →
      ∃ t : State, s.lostOnly t (w.expected :: w.later) ∧ exec .loadTailReadCompletion s = .next
        (State.withRepair
          { s with
            map := t.map, reasons := t.reasons, port := none, ctl := .idle, hold := false, epoch := w.header.epoch
            causes := s.causes ||| 0b100#3
            lastLoad := .part w.area w.header.generation w.header.epoch l.installed
              (l.lost + 1 + w.later.length) })) ∧
    (imageCrc head tail = h.crc →
      (fieldsValid head tail = false ∨ s.freeCells < h.count ∨ (∀ i, (s.slot i).state ≠ .free) →
        next lost l.installed (l.lost + 1)) ∧
      (fieldsValid head tail = true → h.count ≤ s.freeCells → ∀ i, s.isLowestFree i →
        let expired := match c.due with
          | some d => decide (d.toNat ≤ s.partTime.toNat)
          | none => false
        let installed : State :=
          { (s.setSlot i { state := .active, pins := 0, expired, content := c }).setEntry w.expected
              { binding := .bound i, revision := h.revision } with
            freeCells := s.freeCells - c.points.length }
        next (if expired then installed.setReasons w.expected (s.reasonsOf w.expected ||| 0b00001#5) else installed)
          (l.installed + 1) l.lost))

/-! ### Repair -/

/-- R112, R143, R146, R174, R181, R182, R186: a repair starts for the head of the queue while the controller is IDLE and
repair enable is on; its header reads, completed or silent, choose the newest valid image; the walk begins at the
image's lowest channel, or the repair ends NOT_FOUND where there is no image or it does not mark the target, and the
next repair that may start starts at that event. (That REPAIR_STORE_SILENCE is the millisecond tick itself, which counts
in the time base and the step timer too, is log entry 7. REPAIR_START is stated of an IDLE state with a repair waiting,
which no run leaves behind: the repair has started within the event that made it possible, log entry 8.) -/
def Obligations.RepairStartsAndReadsTheHeaders : Prop :=
  ∀ s : State,
    (∀ c i rest, s.held = false → s.ctl = .idle → s.repairQueue = c :: rest → s.control.repairEnable = true →
      (s.entry c).binding = .bound i → exec .repairStart s = .next
        { s with
          repairQueue := rest, ctl := .repairing { target := c, slot := i, stage := .readA }
          port := s.portWithFirstRead }) ∧
    (s.ctl ≠ .idle ∨ s.noRepairWaits → exec .repairStart s = .next s) ∧
    ∀ r, s.ctl = .repairing r →
      let judged (event : Instr) (base : State) (found : Option Header) : Prop :=
        (r.stage = .readA → exec event s = .next
          { base with
            ctl := .repairing { r with stage := .readB found }
            port := some { address := 32768, kind := .read 64, finishing := false, ticks := 0 } }) ∧
        ∀ a, r.stage = .readB a →
          (newest a found = none → exec event s = .next
            (State.withRepair { base with ctl := .idle, lastRepair := .notFound r.target none })) ∧
          ∀ area h, newest a found = some (area, h) →
            (r.target ∉ h.presence → exec event s = .next
              (State.withRepair { base with ctl := .idle, lastRepair := .notFound r.target (some area) })) ∧
            (r.target ∈ h.presence → ∀ c later, h.presence = c :: later → exec event s = .next
              { base with
                ctl := .repairing
                  { r with stage := .head { area, header := h, expected := c, later, offset := 0 } }
                port := some { address := area.base + 64, kind := .read 18, finishing := false, ticks := 0 } })
      (∀ bytes, s.held = false → s.reads bytes →
        judged .repairHeaderReadCompletion { s with port := none } (parseHeader bytes)) ∧
      ∀ p n, s.silentTick p → p.finishing = false → p.kind = .read n → judged .repairStoreSilence s.ticked none

/-- R112, R143, R146, R174, R183, R186: a head of the repair walk: one that is not the expected channel or runs past the
body ends the repair NOT_FOUND; one below the target is stepped over; the target's has its tail read, and a tail of 0
bytes issues no transfer: its record, which lists no point, fails the field checks at this event, NOT_FOUND; the silence
of a head or tail read ends the repair STORE_FAULT; the next repair that may start starts at the end's event. (That
REPAIR_STORE_SILENCE is the millisecond tick itself, which counts in the time base and the step timer too, is log entry
7.) -/
def Obligations.RepairWalksToItsTarget : Prop :=
  ∀ (r : RepairState) (w : Walk) (s : State), s.ctl = .repairing r →
    (∀ head, s.held = false → s.reads head → r.stage = .head w →
      let h := decodeHead head
      let size := 18 + (h.labelLen + 5 * h.count)
      let notFound : Prop := exec .repairHeadReadCompletion s = .next
        (State.withRepair { s with port := none, ctl := .idle, lastRepair := .notFound r.target (some w.area) })
      (h.channel ≠ w.expected ∨ w.header.bodyLength < w.offset + size → notFound) ∧
      (h.channel = w.expected → w.offset + size ≤ w.header.bodyLength →
        (∀ c later, h.channel < r.target → w.later = c :: later → exec .repairHeadReadCompletion s = .next
          { s with
            ctl := .repairing
              { r with stage := .head { area := w.area, header := w.header, expected := c, later
                                        offset := w.offset + size } }
            port := some { address := w.area.base + 64 + (w.offset + size), kind := .read 18, finishing := false
                           ticks := 0 } }) ∧
        (r.target < h.channel → notFound) ∧
        (h.channel = r.target → h.labelLen + 5 * h.count = 0 → notFound) ∧
        (h.channel = r.target → 0 < h.labelLen + 5 * h.count → exec .repairHeadReadCompletion s = .next
          { s with
            ctl := .repairing { r with stage := .tail w head }
            port := some { address := w.area.base + 64 + w.offset + 18, kind := .read (h.labelLen + 5 * h.count)
                           finishing := false, ticks := 0 } }))) ∧
    ∀ p n took, s.silentTick p → p.finishing = false → p.kind = .read n →
      (r.stage = .head w ∨ ∃ head, r.stage = .tail w head) →
      exec .repairStoreSilence s = .next
        (State.withRepair { s.ticked with ctl := .idle, lastRepair := .storeFault r.target w.area }) ∧
      exec (.millisecondTick took) s = exec .repairStoreSilence s

/-- R146, R184, R185, R186: the target's tail: the five checks in order give NOT_FOUND, SUPERSEDED, STALE or NO_ROOM,
each changing no slot and no map entry; a repair that passes all five takes the lowest FREE slot and n cells, keeps the
map revision and the expired flag, supersedes the SUSPECT slot and puts REPAIRED in the place of SUSPECT; the next
repair that may start starts at the same event. -/
def Obligations.RepairTailInstallsOrEnds : Prop :=
  ∀ (r : RepairState) (w : Walk) (head tail : List Byte) (s : State), s.held = false → s.ctl = .repairing r →
    r.stage = .tail w head → s.reads tail →
    let h := decodeHead head
    let c := decodeRecord head tail
    let ended (t : State) (o : RepairOutcome) : Prop :=
      exec .repairTailReadCompletion s = .next
        (State.withRepair { t with port := none, ctl := .idle, lastRepair := o })
    (imageCrc head tail ≠ h.crc ∨ fieldsValid head tail = false → ended s (.notFound r.target (some w.area))) ∧
    (imageCrc head tail = h.crc → fieldsValid head tail = true →
      ((s.entry r.target).binding ≠ .bound r.slot ∨ (s.slot r.slot).state ≠ .suspect →
        ended s (.superseded r.target w.area)) ∧
      ((s.entry r.target).binding = .bound r.slot → (s.slot r.slot).state = .suspect →
        (h.revision ≠ (s.entry r.target).revision → ended s (.stale r.target w.area h.revision)) ∧
        (h.revision = (s.entry r.target).revision →
          (s.freeCells < h.count ∨ (∀ i, (s.slot i).state ≠ .free) → ended s (.noRoom r.target w.area)) ∧
          ∀ i, s.isLowestFree i → h.count ≤ s.freeCells →
            let old := s.slot r.slot
            ended
              { ((((s.setSlot i { state := .active, pins := 0, expired := old.expired, content := c }).setEntry r.target
                  { binding := .bound i, revision := h.revision }).setSlot r.slot old.released).setReasons r.target
                  ((s.reasonsOf r.target &&& 0b11011#5) ||| 0b01000#5)) with
                freeCells := s.freeCells - c.points.length + if old.pins = 0 then old.content.points.length else 0 }
              (.installed r.target w.area h.revision i))))

/-! ### Control, status, Restart -/

/-- R146, R195, R196: Set Control writes every selected setting and no other, restarts the step timer when the scrub
step is written, starts at this event a repair that may start (R146), and answers with every setting; a selection or a
selected value outside its range is refused and changes nothing. (The
widths of the settings in the response are log entry 28.) -/
def Obligations.SetControlWritesTheSelected : Prop :=
  ∀ (selection : Half) (v : ControlBytes) (s : State), s.hears →
    let sel (k : Nat) : Bool := selection.getLsbD k
    let bad := 8192 ≤ selection.toNat ∨ (sel 2 = true ∧ 1 < v.repairEnable.toNat) ∨
      (∃ n : LaneIdx, sel (3 + n.val) = true ∧ 1 < (v.laneEnable.get n).toNat) ∨
      (∃ n : LaneIdx, sel (7 + n.val) = true ∧
        ((v.threshold.get n).toNat = 0 ∨ 8 < (v.threshold.get n).toNat)) ∨
      (sel 11 = true ∧ 32 ≤ v.reasonMask.toNat) ∨ (sel 12 = true ∧ 8 ≤ v.causeMask.toNat)
    (bad → exec (.setControl selection v) s = .next (s.answered .setControl .badParam [])) ∧
    (¬ bad → ∃ c : Control,
      c.lease = (if sel 0 then v.lease else s.control.lease) ∧
      c.step = (if sel 1 then v.step else s.control.step) ∧
      c.repairEnable = (if sel 2 then decide (v.repairEnable = 1#8) else s.control.repairEnable) ∧
      (∀ n : LaneIdx, c.laneEnable.get n =
        if sel (3 + n.val) then decide (v.laneEnable.get n = 1#8) else s.control.laneEnable.get n) ∧
      (∀ n : LaneIdx, c.threshold.get n =
        if sel (7 + n.val) then v.threshold.get n else s.control.threshold.get n) ∧
      c.reasonMask.toNat = (if sel 11 then v.reasonMask.toNat else s.control.reasonMask.toNat) ∧
      c.causeMask.toNat = (if sel 12 then v.causeMask.toNat else s.control.causeMask.toNat) ∧
      exec (.setControl selection v) s = .next
        (State.answered
          (State.withRepair { s with control := c, scrubCount := if sel 1 then 0 else s.scrubCount }) .setControl .ok
          (controlBytes c)))

/-- R197, R200, R204: Read Control answers with all thirteen settings in order, Read Identity with its fixed values, in
every controller state, and neither changes any state. (That the lease, the step, the thresholds and the masks take 1
byte each in the response is log entry 28.) -/
def Obligations.ReadControlAndIdentity : Prop :=
  ∀ s : State, s.hears →
    (let bit (b : Bool) : Byte := if b then 1#8 else 0#8
     let c := s.control
     exec .readControl s = .next (s.answered .readControl .ok
      [c.lease, c.step, bit c.repairEnable, bit (c.laneEnable.get 0), bit (c.laneEnable.get 1),
       bit (c.laneEnable.get 2), bit (c.laneEnable.get 3), c.threshold.get 0, c.threshold.get 1, c.threshold.get 2,
       c.threshold.get 3, c.reasonMask.zeroExtend 8, c.causeMask.zeroExtend 8])) ∧
    exec .readIdentity s = .next (s.answered .readIdentity .ok
      [0x54#8, 0x56#8, 0x01#8, 0x28#8, 0x00#8, 0x01#8, 0x01#8, 0x00#8, 0x80#8, 0x08#8, 0x00#8, 0x10#8, 0x04#8])

/-- R152, R158, R159, R171, R177, R181, R186, R198, R199, R204: Read Status answers with its 73 bytes: the epoch, the
free slots and cells, the set size, part time, the mismatch counter; the store controller's state with its details; the
repair queue; the last save, load and repair outcome with what each records. The counter is 0 afterwards, and nothing
else changes. (That an outcome without a channel carries FFh in its channel byte is log entry 16, and that DONE carries
its area in the area byte too is log entry 25: the model's readings of R204 and R152.) -/
def Obligations.ReadStatusReportsAndClearsTheCounter : Prop :=
  ∀ s : State, s.hears →
    let ff (n : Nat) : List Byte := List.replicate n 0xFF#8
    let area (z : Area) : Byte :=
      match z with
      | .a => 0x00#8
      | .b => 0x01#8
    let chosen (z : Option Area) : List Byte :=
      match z with
      | some z => [area z]
      | .none => ff 1
    let phase (p : SavePhase) : Byte :=
      match p with
      | .invalidate => 0x00#8
      | .body => 0x01#8
      | .header => 0x02#8
    let byte (n : Nat) : Byte := BitVec.ofNat 8 n
    let word (n : Nat) : List Byte := be32 (BitVec.ofNat 32 n)
    let channel (c : Channel) : Byte := byte c.val
    let controller : List Byte :=
      match s.ctl with
      | .idle => [0x00#8] ++ ff 10 ++ [0#8, 0#8] ++ ff 2
      | .saving v =>
        [0x01#8] ++
          (match v.stage with
           | .readA | .readB _ => [0x00#8] ++ ff 1 ++ ff 4
           | .invalidate g => [0x00#8, area g.area] ++ be32 g.generation
           | .body g => [0x01#8, area g.area] ++ be32 g.generation
           | .header g | .marker g => [0x02#8, area g.area] ++ be32 g.generation) ++
          word v.done ++ [0#8, 0#8] ++ ff 2
      | .loading l =>
        [0x02#8] ++
          (match l.stage with
           | .drain => [0x00#8] ++ ff 9 ++ [0#8, 0#8]
           | .readA | .readB _ => [0x01#8] ++ ff 9 ++ [0#8, 0#8]
           | .head w | .tail w _ => [0x02#8, area w.area] ++ ff 8 ++ [1#8, channel w.expected]) ++
          [byte l.installed, byte l.lost]
      | .repairing r =>
        [0x03#8] ++
          (match r.stage with
           | .readA | .readB _ => [0x00#8] ++ ff 9
           | .head w | .tail w _ => [0x01#8, area w.area] ++ ff 8) ++
          [1#8, channel r.target] ++ ff 2
    let queue : List Byte := byte s.repairQueue.length :: (s.repairQueue.map channel ++ ff 8).take 8
    let save : List Byte :=
      match s.lastSave with
      | .none => [0x00#8] ++ ff 16
      | .done .a generation epoch count body =>
        [0x01#8] ++ ff 1 ++ [0x00#8] ++ ff 1 ++ be32 generation ++ be32 epoch ++ [byte count] ++ word body
      | .done .b generation epoch count body =>
        [0x02#8] ++ ff 1 ++ [0x01#8] ++ ff 1 ++ be32 generation ++ be32 epoch ++ [byte count] ++ word body
      | .failedStore p z completed => [0x03#8, phase p] ++ chosen z ++ ff 10 ++ word completed
      | .failedCorrupt c z completed => [0x04#8] ++ ff 1 ++ [area z, channel c] ++ ff 9 ++ word completed
      | .stopped p z completed => [0x05#8, phase p] ++ chosen z ++ ff 10 ++ word completed
    let load : List Byte :=
      match s.lastLoad with
      | .none => [0x00#8] ++ ff 12
      | .loaded z generation epoch count => [0x01#8, area z] ++ be32 generation ++ be32 epoch ++ [byte count] ++ ff 2
      | .part z generation epoch installed lost =>
        [0x02#8, area z] ++ be32 generation ++ be32 epoch ++ ff 1 ++ [byte installed, byte lost]
      | .storeFault z generation epoch installed lost =>
        [0x03#8, area z] ++ be32 generation ++ be32 epoch ++ ff 1 ++ [byte installed, byte lost]
      | .noImage => [0x04#8] ++ ff 5 ++ be32 0#32 ++ ff 3
    let repair : List Byte :=
      match s.lastRepair with
      | .none => [0x00#8] ++ ff 5
      | .installed c z revision i => [0x01#8, channel c, area z] ++ be16 revision ++ [byte i.val]
      | .notFound c z => [0x02#8, channel c] ++ chosen z ++ ff 3
      | .superseded c z => [0x03#8, channel c, area z] ++ ff 3
      | .stale c z revision => [0x04#8, channel c, area z] ++ be16 revision ++ ff 1
      | .noRoom c z => [0x05#8, channel c, area z] ++ ff 3
      | .storeFault c z => [0x06#8, channel c, area z] ++ ff 3
    let payload : List Byte :=
      be32 s.epoch ++ [byte s.freeSlots] ++ be16 (BitVec.ofNat 16 s.freeCells) ++ [byte s.edits.length] ++
        be32 s.partTime ++ [byte s.mismatches] ++ controller ++ queue ++ save ++ load ++ repair
    exec .readStatus s = .next (State.answered { s with mismatches := 0 } .readStatus .ok payload) ∧
      payload.length = 73

/-- R11, R25, R49, R62, R94, R104, R110, R144, R155, R173, R187, R201: Restart, taken also while a probe is pending,
keeps the map, the installed and DRAINING slots, part time, the reasons, the epoch and the outcomes; empties the edit
set and stops its timer, each staged slot entering FREE with its cells, or DRAINING when pinned; empties the queues,
drops every lookup in flight, clears the causes, and returns the settings and the port to their reset state. A save ends
STOPPED, a repair is discarded, a load begins again from its table clear, or drains on; a read in progress is abandoned,
a page write goes on as a finishing write, and a finishing write stays. -/
def Obligations.RestartKeepsTheTable : Prop :=
  ∀ s : State, s.held = false → s.receiver = .idle → (s.edits.filterMap Entry.slot).Nodup → ∃ u : State,
    (∀ i, u.slot i = if (∃ e ∈ s.edits, e.slot = some i) then (s.slot i).released else s.slot i) ∧
    u.freeCells = s.freeCells + ((s.edits.filterMap Entry.slot).map fun i =>
      if (s.slot i).pins = 0 then (s.slot i).content.points.length else 0).sum ∧
    let settled : State :=
      { s with
        slots := u.slots, freeCells := u.freeCells, edits := [], lease := .stopped
        contexts := tabulate fun k => (s.context k).map fun l => { l with drop := true }
        lanes := tabulate fun n => { requests := [], results := [], inFlight := (s.lane n).inFlight }
        pointer := 0, probe := .none, causes := 0#3, repairQueue := [], scrubPos := 0, scrubCount := 0
        mismatches := 0, control := Control.default, counter := 0#8
        response := { status := .ok, echo := 0#8, counter := 0#8, refused := false, payload := [] } }
    (s.ctl = .idle → exec .restart s = .next settled) ∧
    (∀ v, s.ctl = .saving v → exec .restart s = .next
      { settled with
        ctl := .idle, causes := 0b010#3, lastSave := .stopped v.stage.phase v.stage.area v.done
        port := s.portLeft }) ∧
    (∀ r, s.ctl = .repairing r → exec .restart s = .next { settled with ctl := .idle, port := s.portLeft }) ∧
    (∀ l, s.ctl = .loading l → l.stage ≠ .drain →
      exec .restart s = .next (State.cleared { settled with port := s.portLeft })) ∧
    ∀ l k, s.ctl = .loading l → l.stage = .drain → s.context k ≠ none → exec .restart s = .next settled

/-! ### Invariants -/

/-- R1, R9, R14, R15, R17, R20, R47, R98, R162, R163: the law of the record store is kept by every command and event:
bindings and slots match one to one, staged slots and entries match, pins count lookups, FREE slots are blank, cells add
up to 2048, and a load meets no open entry and, after its clear, no lookup in flight (R103). With it goes the law of a
held device, whose controller is LOADING (R145; that it is so while the device is still held is log entry 1): the boot
load that ends a reset meets no open entry. -/
def Obligations.TableLawIsKept : Prop :=
  Kept fun s => s.tableLaw ∧ s.heldLaw

/-- R89, R92: for every lane, results queued and lookups in flight together never exceed 8, requests never exceed 8, and
the in-flight count counts the lane's contexts. -/
def Obligations.LaneLawIsKept : Prop :=
  Kept State.laneLaw

/-- R106, R194: the buffer is PENDING exactly while a probe is pending, and exactly the granted probe has a context
without a drop mark. -/
def Obligations.ProbeLawIsKept : Prop :=
  Kept State.probeLaw

/-- R4, R44: with the law of the record store, of a held device (log entry 1) and of the probe, every content holds
stated values, and every list that a completion reads and delivers holds at least 2 points, so that no delivered result
rests on the free value of log entry 3. -/
def Obligations.DeliveredListsHoldTwoPoints : Prop :=
  Kept fun s => s.tableLaw ∧ s.heldLaw ∧ s.probeLaw ∧ s.readLaw

/-- R63, R64, R112, R137, R143, R174, R177, R179, R195: the lease timer is STOPPED exactly while the set is EMPTY and
its count lies below the lease; the tick counters stay below their ends; thresholds lie in 1 to 8; the repair queue
holds at most 8 channels without duplicates, each BOUND to a SUSPECT slot (but the channel under repair, if a later
record of it has been queued, which R180 does not foresee); the store stays in its canonical form, so that equal
contents are equal data. R139, R148, R149, R153: a save writes inside its target area alone, so that from the choice of
its target to its end no step changes a byte of the other area, and the image that was the newest there stays. -/
def Obligations.TimerQueueAndStoreLawsAreKept : Prop :=
  (Kept State.leaseLaw ∧ Kept State.timerLaw ∧ Kept State.controlLaw ∧ Kept State.queueLaw) ∧
  Kept State.storeLaw ∧
  (∀ s t : State, s.tableLaw → s.queuedLaw → step s = .next t →
    ∀ c ∈ t.repairQueue, (∀ r, s.ctl = .repairing r → r.target ≠ c) → t.boundSuspect c) ∧
  (∀ s t : State, s.tableLaw → s.readLaw → s.saveLaw → step s = .next t → t.saveLaw) ∧
  ∀ (s t : State) (v : SaveState) (g : Target), s.saveLaw → s.ctl = .saving v → v.stage.target = some g →
    step s = .next t →
    (∀ a, areaOfAddress a ≠ g.area → Mem.read t.store a = Mem.read s.store a) ∧
    Mem.image t.store g.area.other = Mem.image s.store g.area.other

/-- R24 and the reset rules: every law holds right after reset. (R98 sets the engine hold at the end of a reset; that it
is set, with the controller LOADING, while the device is still held is log entry 1.) -/
def Obligations.ResetMeetsTheLaws : Prop :=
  State.reset.tableLaw ∧ State.reset.heldLaw ∧ State.reset.laneLaw ∧ State.reset.probeLaw ∧ State.reset.leaseLaw ∧
    State.reset.timerLaw ∧ State.reset.controlLaw ∧ State.reset.queueLaw ∧ State.reset.queuedLaw ∧
    State.reset.storeLaw ∧ State.reset.saveLaw ∧ State.reset.readLaw
end

