-- ==== Sys2Proof/Laws/Memory.lean ====
section
/-! SUPPORT. The laws of the external store: every operation keeps the canonical form, and a read after a write. -/

namespace Sys2Proof.Machine

/-! ### The canonical form -/

/-- The empty store, which reads as the fresh value everywhere, is in canonical form. -/
theorem Mem.wf_nil : Mem.wf [] = true := rfl

/-- A front cell of a canonical store: in range, not fresh, below the next cell. -/
theorem Mem.wf_cons (c : Host.Cell) (m : Mem) :
    Mem.wf (c :: m) = true ↔
      c.1 < Config.storeBytes ∧ c.2 ≠ Config.freshStoreByte ∧ (∀ d ∈ m.head?, c.1 < d.1) ∧ Mem.wf m = true := by
  induction m generalizing c with
  | nil => simp [Mem.wf]
  | cons d rest ih =>
    have hd := ih d
    simp only [Mem.wf, Bool.and_eq_true, decide_eq_true_eq, bne_iff_ne, ne_eq, List.head?_cons, Option.mem_some_iff,
      forall_eq']
    constructor
    · rintro ⟨⟨h1, h2⟩, h3⟩
      exact ⟨Nat.lt_trans h1 (hd.1 h3).1, h2, h1, h3⟩
    · rintro ⟨_, h2, h1, h3⟩
      exact ⟨⟨h1, h2⟩, h3⟩

/-- Every cell of a canonical store lies above its front cell. -/
theorem Mem.wf_cons_below (c : Host.Cell) (m : Mem) (h : Mem.wf (c :: m) = true) : ∀ d ∈ m, c.1 < d.1 := by
  induction m generalizing c with
  | nil => simp
  | cons e rest ih =>
    obtain ⟨_, _, h3, h4⟩ := (Mem.wf_cons c (e :: rest)).1 h
    have h5 : c.1 < e.1 := h3 e (by simp)
    intro d hd
    rcases List.mem_cons.1 hd with rfl | hd
    · exact h5
    · exact Nat.lt_trans h5 (ih e h4 d hd)

/-- A cell put in front of a store whose cells lie above it keeps the form. -/
theorem Mem.wf_consCell (a : Nat) (b : Byte) (m : Mem) (ha : a < Config.storeBytes) (hm : Mem.wf m = true)
    (habove : ∀ d ∈ m.head?, a < d.1) : Mem.wf (Mem.consCell a b m) = true := by
  unfold Mem.consCell
  split
  · exact hm
  · rename_i hb
    exact (Mem.wf_cons _ _).2 ⟨ha, hb, habove, hm⟩

/-- The front cell after a write: what was in front, or the address written. -/
theorem Mem.head_write (m : Mem) (a : Nat) (b : Byte) (hm : Mem.wf m = true) (n : Nat) (hn : n < a)
    (hlow : ∀ d ∈ m.head?, n < d.1) : ∀ d ∈ (Mem.write m a b).head?, n < d.1 := by
  cases m with
  | nil =>
    simp only [Mem.write, Mem.consCell]
    split <;> simp [hn]
  | cons c rest =>
    have hc : n < c.1 := hlow c (by simp)
    simp only [Mem.write]
    split
    · simp only [Mem.consCell]
      split <;> simp [hn, hc]
    · split
      · simp only [Mem.consCell]
        split
        · intro d hd
          exact Nat.lt_trans hc (((Mem.wf_cons c rest).1 hm).2.2.1 d hd)
        · simp [hn]
      · simp [hc]

/-- A write of one byte keeps the canonical form. -/
theorem Mem.wf_write (m : Mem) (a : Nat) (b : Byte) (ha : a < Config.storeBytes) (hm : Mem.wf m = true) :
    Mem.wf (Mem.write m a b) = true := by
  induction m with
  | nil => exact Mem.wf_consCell a b [] ha rfl (by simp)
  | cons c rest ih =>
    obtain ⟨h1, h2, h3, h4⟩ := (Mem.wf_cons c rest).1 hm
    simp only [Mem.write]
    split
    · exact Mem.wf_consCell a b _ ha hm (by simpa)
    · split
      · rename_i _ he
        exact Mem.wf_consCell a b rest ha h4 (by rw [he]; exact h3)
      · rename_i hlt hne
        have : c.1 < a := by omega
        exact (Mem.wf_cons _ _).2 ⟨h1, h2, Mem.head_write rest a b h4 c.1 this h3, ih h4⟩

/-- A page write keeps the canonical form. -/
theorem Mem.wf_writeBytes (m : Mem) (a : Nat) (bytes : List Byte) (hm : Mem.wf m = true) :
    Mem.wf (Mem.writeBytes m a bytes) = true := by
  induction bytes generalizing m a with
  | nil => exact hm
  | cons b rest ih => exact ih _ _ (Mem.wf_write m _ b (Nat.mod_lt _ (by decide)) hm)

/-- A cut page write keeps the canonical form. -/
theorem Mem.wf_cutWrite (m : Mem) (a : Nat) (bytes : List Byte) (hm : Mem.wf m = true) :
    Mem.wf (Mem.cutWrite m a bytes) = true := by
  unfold Mem.cutWrite
  simp only
  split
  · exact hm
  · exact Mem.wf_writeBytes m a bytes hm

/-- The store of the reset state is in canonical form. -/
theorem State.reset_store_wf : Mem.wf State.reset.store = true := rfl

/-! ### A read after a write -/

/-- An address that no cell lists reads as the fresh value. -/
theorem Mem.read_unlisted (m : Mem) (a : Nat) (h : ∀ d ∈ m, d.1 ≠ a) : Mem.read m a = Config.freshStoreByte := by
  induction m with
  | nil => rfl
  | cons c rest ih =>
    simp only [Mem.read, if_neg (h c (by simp))]
    exact ih fun d hd => h d (by simp [hd])

/-- Reading where a cell was put in front. -/
theorem Mem.read_consCell_same (a : Nat) (b : Byte) (m : Mem) (h : ∀ d ∈ m, d.1 ≠ a) :
    Mem.read (Mem.consCell a b m) a = b := by
  unfold Mem.consCell
  split
  · rename_i hb
    rw [Mem.read_unlisted m a h, hb]
  · simp [Mem.read]

/-- Reading elsewhere than where a cell was put in front. -/
theorem Mem.read_consCell_other (a a' : Nat) (b : Byte) (m : Mem) (h : a' ≠ a) :
    Mem.read (Mem.consCell a b m) a' = Mem.read m a' := by
  unfold Mem.consCell
  split
  · rfl
  · simp [Mem.read, Ne.symm h]

/-- A read after a write to the same address gives the byte written. -/
theorem Mem.read_write_same (m : Mem) (a : Nat) (b : Byte) (hm : Mem.wf m = true) :
    Mem.read (Mem.write m a b) a = b := by
  induction m with
  | nil => exact Mem.read_consCell_same a b [] (by simp)
  | cons c rest ih =>
    have hbelow := Mem.wf_cons_below c rest hm
    simp only [Mem.write]
    split
    · rename_i hlt
      refine Mem.read_consCell_same a b _ ?_
      intro d hd
      rcases List.mem_cons.1 hd with rfl | hd
      · omega
      · have := hbelow d hd
        omega
    · split
      · rename_i _ he
        refine Mem.read_consCell_same a b rest fun d hd => ?_
        have := hbelow d hd
        omega
      · rename_i _ hne
        simp only [Mem.read, if_neg (Ne.symm hne)]
        exact ih ((Mem.wf_cons c rest).1 hm).2.2.2

/-- A write leaves every other address as it was. -/
theorem Mem.read_write_other (m : Mem) (a a' : Nat) (b : Byte) (h : a' ≠ a) :
    Mem.read (Mem.write m a b) a' = Mem.read m a' := by
  induction m with
  | nil => exact Mem.read_consCell_other a a' b [] h
  | cons c rest ih =>
    simp only [Mem.write]
    split
    · exact Mem.read_consCell_other a a' b _ h
    · split
      · rename_i _ he
        rw [Mem.read_consCell_other a a' b rest h]
        simp [Mem.read, show ¬ c.1 = a' by omega]
      · simp only [Mem.read, ih]

/-- A page write that does not wrap leaves every address outside its bytes as it was. -/
theorem Mem.read_writeBytes_outside (m : Mem) (a : Nat) (bytes : List Byte) (x : Nat)
    (hfit : a + bytes.length ≤ Config.storeBytes) (hx : x < a ∨ a + bytes.length ≤ x) :
    Mem.read (Mem.writeBytes m a bytes) x = Mem.read m x := by
  induction bytes generalizing m a with
  | nil => rfl
  | cons b rest ih =>
    simp only [List.length_cons] at hfit hx
    have ha : a % Config.storeBytes = a := Nat.mod_eq_of_lt (by omega)
    rw [Mem.writeBytes, ih _ _ (by omega) (by omega), ha]
    exact Mem.read_write_other m a x b (by omega)

/-- A page write that does not wrap puts each of its bytes at its address. -/
theorem Mem.read_writeBytes_inside (m : Mem) (a : Nat) (bytes : List Byte) (i : Nat) (hm : Mem.wf m = true)
    (hfit : a + bytes.length ≤ Config.storeBytes) (hi : i < bytes.length) :
    Mem.read (Mem.writeBytes m a bytes) (a + i) = bytes[i] := by
  induction bytes generalizing m a i with
  | nil => simp at hi
  | cons b rest ih =>
    simp only [List.length_cons] at hfit hi
    have ha : a % Config.storeBytes = a := Nat.mod_eq_of_lt (by omega)
    have hw : Mem.wf (Mem.write m a b) = true := Mem.wf_write m a b (by omega) hm
    rw [Mem.writeBytes, ha]
    cases i with
    | zero =>
      rw [Mem.read_writeBytes_outside _ _ _ _ (by omega) (by omega)]
      exact Mem.read_write_same m a b hm
    | succ j =>
      have := ih (Mem.write m a b) (a + 1) j hw (by omega) (by omega)
      rw [show a + (j + 1) = a + 1 + j by omega]
      simpa using this

/-- A read of the bytes just written gives them back. -/
theorem Mem.readBytes_writeBytes (m : Mem) (a : Nat) (bytes : List Byte) (hm : Mem.wf m = true)
    (hfit : a + bytes.length ≤ Config.storeBytes) :
    Mem.readBytes (Mem.writeBytes m a bytes) a bytes.length = bytes := by
  apply List.ext_getElem
  · simp [Mem.readBytes]
  · intro i h1 h2
    simp only [Mem.readBytes, List.getElem_map, List.getElem_range]
    rw [Nat.mod_eq_of_lt (by omega)]
    exact Mem.read_writeBytes_inside m a bytes i hm hfit h2

end Sys2Proof.Machine
end

