-- ==== Sys2Proof/Laws/State.lean ====
section
/-! SUPPORT. The laws of the state's updates: what each named update does to each field, and reading back a slot, an
entry, the reasons, a lane or a context after one was replaced. -/

namespace Sys2Proof.Machine

/-! ### Vectors -/

/-- Reading back the place that was set. -/
theorem vector_get_set_same {α : Type} {n : Nat} (v : Vector α n) (i : Fin n) (a : α) :
    (v.set i.val a i.isLt).get i = a := by
  show (v.set i.val a i.isLt)[i.val] = a
  simp

/-- Reading any other place. -/
theorem vector_get_set_other {α : Type} {n : Nat} (v : Vector α n) (i j : Fin n) (a : α) (h : j ≠ i) :
    (v.set i.val a i.isLt).get j = v.get j := by
  have : i.val ≠ j.val := fun e => h (Fin.ext e.symm)
  show (v.set i.val a i.isLt)[j.val] = v[j.val]
  simp [Vector.getElem_set, this]

/-- Reading a vector of equal places. -/
@[simp] theorem vector_get_replicate {α : Type} {n : Nat} (a : α) (i : Fin n) : (Vector.replicate n a).get i = a := by
  simp [Vector.get]

/-- Reading a tabulated vector. -/
@[simp] theorem tabulate_get {α : Type} {n : Nat} (f : Fin n → α) (i : Fin n) : (tabulate f).get i = f i := by
  simp only [tabulate, Vector.get]
  simp
  rfl

/-! ### Fields after replacing a slot -/

@[simp] theorem State.setSlot_map (s : State) (i : SlotIdx) (v : Slot) : (s.setSlot i v).map = s.map := rfl
@[simp] theorem State.setSlot_slots (s : State) (i : SlotIdx) (v : Slot) :
    (s.setSlot i v).slots = s.slots.set i.val v i.isLt := rfl
@[simp] theorem State.setSlot_freeCells (s : State) (i : SlotIdx) (v : Slot) : (s.setSlot i v).freeCells = s.freeCells :=
  rfl
@[simp] theorem State.setSlot_epoch (s : State) (i : SlotIdx) (v : Slot) : (s.setSlot i v).epoch = s.epoch := rfl
@[simp] theorem State.setSlot_edits (s : State) (i : SlotIdx) (v : Slot) : (s.setSlot i v).edits = s.edits := rfl
@[simp] theorem State.setSlot_lease (s : State) (i : SlotIdx) (v : Slot) : (s.setSlot i v).lease = s.lease := rfl
@[simp] theorem State.setSlot_contexts (s : State) (i : SlotIdx) (v : Slot) : (s.setSlot i v).contexts = s.contexts :=
  rfl
@[simp] theorem State.setSlot_pointer (s : State) (i : SlotIdx) (v : Slot) : (s.setSlot i v).pointer = s.pointer := rfl
@[simp] theorem State.setSlot_hold (s : State) (i : SlotIdx) (v : Slot) : (s.setSlot i v).hold = s.hold := rfl
@[simp] theorem State.setSlot_probe (s : State) (i : SlotIdx) (v : Slot) : (s.setSlot i v).probe = s.probe := rfl
@[simp] theorem State.setSlot_lanes (s : State) (i : SlotIdx) (v : Slot) : (s.setSlot i v).lanes = s.lanes := rfl
@[simp] theorem State.setSlot_partTime (s : State) (i : SlotIdx) (v : Slot) : (s.setSlot i v).partTime = s.partTime :=
  rfl
@[simp] theorem State.setSlot_msCount (s : State) (i : SlotIdx) (v : Slot) : (s.setSlot i v).msCount = s.msCount := rfl
@[simp] theorem State.setSlot_reasons (s : State) (i : SlotIdx) (v : Slot) : (s.setSlot i v).reasons = s.reasons := rfl
@[simp] theorem State.setSlot_causes (s : State) (i : SlotIdx) (v : Slot) : (s.setSlot i v).causes = s.causes := rfl
@[simp] theorem State.setSlot_ctl (s : State) (i : SlotIdx) (v : Slot) : (s.setSlot i v).ctl = s.ctl := rfl
@[simp] theorem State.setSlot_port (s : State) (i : SlotIdx) (v : Slot) : (s.setSlot i v).port = s.port := rfl
@[simp] theorem State.setSlot_repairQueue (s : State) (i : SlotIdx) (v : Slot) :
    (s.setSlot i v).repairQueue = s.repairQueue := rfl
@[simp] theorem State.setSlot_lastSave (s : State) (i : SlotIdx) (v : Slot) : (s.setSlot i v).lastSave = s.lastSave :=
  rfl
@[simp] theorem State.setSlot_lastLoad (s : State) (i : SlotIdx) (v : Slot) : (s.setSlot i v).lastLoad = s.lastLoad :=
  rfl
@[simp] theorem State.setSlot_lastRepair (s : State) (i : SlotIdx) (v : Slot) :
    (s.setSlot i v).lastRepair = s.lastRepair := rfl
@[simp] theorem State.setSlot_scrubPos (s : State) (i : SlotIdx) (v : Slot) : (s.setSlot i v).scrubPos = s.scrubPos :=
  rfl
@[simp] theorem State.setSlot_scrubCount (s : State) (i : SlotIdx) (v : Slot) :
    (s.setSlot i v).scrubCount = s.scrubCount := rfl
@[simp] theorem State.setSlot_mismatches (s : State) (i : SlotIdx) (v : Slot) :
    (s.setSlot i v).mismatches = s.mismatches := rfl
@[simp] theorem State.setSlot_held (s : State) (i : SlotIdx) (v : Slot) : (s.setSlot i v).held = s.held := rfl
@[simp] theorem State.setSlot_receiver (s : State) (i : SlotIdx) (v : Slot) : (s.setSlot i v).receiver = s.receiver :=
  rfl
@[simp] theorem State.setSlot_response (s : State) (i : SlotIdx) (v : Slot) : (s.setSlot i v).response = s.response :=
  rfl
@[simp] theorem State.setSlot_counter (s : State) (i : SlotIdx) (v : Slot) : (s.setSlot i v).counter = s.counter := rfl
@[simp] theorem State.setSlot_control (s : State) (i : SlotIdx) (v : Slot) : (s.setSlot i v).control = s.control := rfl
@[simp] theorem State.setSlot_sdo (s : State) (i : SlotIdx) (v : Slot) : (s.setSlot i v).sdo = s.sdo := rfl
@[simp] theorem State.setSlot_store (s : State) (i : SlotIdx) (v : Slot) : (s.setSlot i v).store = s.store := rfl
@[simp] theorem State.setSlot_pending (s : State) (i : SlotIdx) (v : Slot) : (s.setSlot i v).pending = s.pending := rfl

@[simp] theorem State.entry_setSlot (s : State) (i : SlotIdx) (v : Slot) (c' : Channel) :
    (s.setSlot i v).entry c' = s.entry c' := rfl
@[simp] theorem State.reasonsOf_setSlot (s : State) (i : SlotIdx) (v : Slot) (c' : Channel) :
    (s.setSlot i v).reasonsOf c' = s.reasonsOf c' := rfl
@[simp] theorem State.lane_setSlot (s : State) (i : SlotIdx) (v : Slot) (n' : LaneIdx) :
    (s.setSlot i v).lane n' = s.lane n' := rfl
@[simp] theorem State.context_setSlot (s : State) (i : SlotIdx) (v : Slot) (k' : CtxIdx) :
    (s.setSlot i v).context k' = s.context k' := rfl

/-! ### Fields after replacing a map entry -/

@[simp] theorem State.setEntry_map (s : State) (c : Channel) (e : MapEntry) :
    (s.setEntry c e).map = s.map.set c.val e c.isLt := rfl
@[simp] theorem State.setEntry_slots (s : State) (c : Channel) (e : MapEntry) : (s.setEntry c e).slots = s.slots := rfl
@[simp] theorem State.setEntry_freeCells (s : State) (c : Channel) (e : MapEntry) :
    (s.setEntry c e).freeCells = s.freeCells := rfl
@[simp] theorem State.setEntry_epoch (s : State) (c : Channel) (e : MapEntry) : (s.setEntry c e).epoch = s.epoch := rfl
@[simp] theorem State.setEntry_edits (s : State) (c : Channel) (e : MapEntry) : (s.setEntry c e).edits = s.edits := rfl
@[simp] theorem State.setEntry_lease (s : State) (c : Channel) (e : MapEntry) : (s.setEntry c e).lease = s.lease := rfl
@[simp] theorem State.setEntry_contexts (s : State) (c : Channel) (e : MapEntry) :
    (s.setEntry c e).contexts = s.contexts := rfl
@[simp] theorem State.setEntry_pointer (s : State) (c : Channel) (e : MapEntry) : (s.setEntry c e).pointer = s.pointer :=
  rfl
@[simp] theorem State.setEntry_hold (s : State) (c : Channel) (e : MapEntry) : (s.setEntry c e).hold = s.hold := rfl
@[simp] theorem State.setEntry_probe (s : State) (c : Channel) (e : MapEntry) : (s.setEntry c e).probe = s.probe := rfl
@[simp] theorem State.setEntry_lanes (s : State) (c : Channel) (e : MapEntry) : (s.setEntry c e).lanes = s.lanes := rfl
@[simp] theorem State.setEntry_partTime (s : State) (c : Channel) (e : MapEntry) :
    (s.setEntry c e).partTime = s.partTime := rfl
@[simp] theorem State.setEntry_msCount (s : State) (c : Channel) (e : MapEntry) : (s.setEntry c e).msCount = s.msCount :=
  rfl
@[simp] theorem State.setEntry_reasons (s : State) (c : Channel) (e : MapEntry) : (s.setEntry c e).reasons = s.reasons :=
  rfl
@[simp] theorem State.setEntry_causes (s : State) (c : Channel) (e : MapEntry) : (s.setEntry c e).causes = s.causes :=
  rfl
@[simp] theorem State.setEntry_ctl (s : State) (c : Channel) (e : MapEntry) : (s.setEntry c e).ctl = s.ctl := rfl
@[simp] theorem State.setEntry_port (s : State) (c : Channel) (e : MapEntry) : (s.setEntry c e).port = s.port := rfl
@[simp] theorem State.setEntry_repairQueue (s : State) (c : Channel) (e : MapEntry) :
    (s.setEntry c e).repairQueue = s.repairQueue := rfl
@[simp] theorem State.setEntry_lastSave (s : State) (c : Channel) (e : MapEntry) :
    (s.setEntry c e).lastSave = s.lastSave := rfl
@[simp] theorem State.setEntry_lastLoad (s : State) (c : Channel) (e : MapEntry) :
    (s.setEntry c e).lastLoad = s.lastLoad := rfl
@[simp] theorem State.setEntry_lastRepair (s : State) (c : Channel) (e : MapEntry) :
    (s.setEntry c e).lastRepair = s.lastRepair := rfl
@[simp] theorem State.setEntry_scrubPos (s : State) (c : Channel) (e : MapEntry) :
    (s.setEntry c e).scrubPos = s.scrubPos := rfl
@[simp] theorem State.setEntry_scrubCount (s : State) (c : Channel) (e : MapEntry) :
    (s.setEntry c e).scrubCount = s.scrubCount := rfl
@[simp] theorem State.setEntry_mismatches (s : State) (c : Channel) (e : MapEntry) :
    (s.setEntry c e).mismatches = s.mismatches := rfl
@[simp] theorem State.setEntry_held (s : State) (c : Channel) (e : MapEntry) : (s.setEntry c e).held = s.held := rfl
@[simp] theorem State.setEntry_receiver (s : State) (c : Channel) (e : MapEntry) :
    (s.setEntry c e).receiver = s.receiver := rfl
@[simp] theorem State.setEntry_response (s : State) (c : Channel) (e : MapEntry) :
    (s.setEntry c e).response = s.response := rfl
@[simp] theorem State.setEntry_counter (s : State) (c : Channel) (e : MapEntry) : (s.setEntry c e).counter = s.counter :=
  rfl
@[simp] theorem State.setEntry_control (s : State) (c : Channel) (e : MapEntry) : (s.setEntry c e).control = s.control :=
  rfl
@[simp] theorem State.setEntry_sdo (s : State) (c : Channel) (e : MapEntry) : (s.setEntry c e).sdo = s.sdo := rfl
@[simp] theorem State.setEntry_store (s : State) (c : Channel) (e : MapEntry) : (s.setEntry c e).store = s.store := rfl
@[simp] theorem State.setEntry_pending (s : State) (c : Channel) (e : MapEntry) : (s.setEntry c e).pending = s.pending :=
  rfl

@[simp] theorem State.slot_setEntry (s : State) (c : Channel) (e : MapEntry) (i' : SlotIdx) :
    (s.setEntry c e).slot i' = s.slot i' := rfl
@[simp] theorem State.reasonsOf_setEntry (s : State) (c : Channel) (e : MapEntry) (c' : Channel) :
    (s.setEntry c e).reasonsOf c' = s.reasonsOf c' := rfl
@[simp] theorem State.lane_setEntry (s : State) (c : Channel) (e : MapEntry) (n' : LaneIdx) :
    (s.setEntry c e).lane n' = s.lane n' := rfl
@[simp] theorem State.context_setEntry (s : State) (c : Channel) (e : MapEntry) (k' : CtxIdx) :
    (s.setEntry c e).context k' = s.context k' := rfl

/-! ### Fields after replacing a channel's reasons -/

@[simp] theorem State.setReasons_map (s : State) (c : Channel) (r : Reasons) : (s.setReasons c r).map = s.map := rfl
@[simp] theorem State.setReasons_slots (s : State) (c : Channel) (r : Reasons) : (s.setReasons c r).slots = s.slots :=
  rfl
@[simp] theorem State.setReasons_freeCells (s : State) (c : Channel) (r : Reasons) :
    (s.setReasons c r).freeCells = s.freeCells := rfl
@[simp] theorem State.setReasons_epoch (s : State) (c : Channel) (r : Reasons) : (s.setReasons c r).epoch = s.epoch :=
  rfl
@[simp] theorem State.setReasons_edits (s : State) (c : Channel) (r : Reasons) : (s.setReasons c r).edits = s.edits :=
  rfl
@[simp] theorem State.setReasons_lease (s : State) (c : Channel) (r : Reasons) : (s.setReasons c r).lease = s.lease :=
  rfl
@[simp] theorem State.setReasons_contexts (s : State) (c : Channel) (r : Reasons) :
    (s.setReasons c r).contexts = s.contexts := rfl
@[simp] theorem State.setReasons_pointer (s : State) (c : Channel) (r : Reasons) :
    (s.setReasons c r).pointer = s.pointer := rfl
@[simp] theorem State.setReasons_hold (s : State) (c : Channel) (r : Reasons) : (s.setReasons c r).hold = s.hold := rfl
@[simp] theorem State.setReasons_probe (s : State) (c : Channel) (r : Reasons) : (s.setReasons c r).probe = s.probe :=
  rfl
@[simp] theorem State.setReasons_lanes (s : State) (c : Channel) (r : Reasons) : (s.setReasons c r).lanes = s.lanes :=
  rfl
@[simp] theorem State.setReasons_partTime (s : State) (c : Channel) (r : Reasons) :
    (s.setReasons c r).partTime = s.partTime := rfl
@[simp] theorem State.setReasons_msCount (s : State) (c : Channel) (r : Reasons) :
    (s.setReasons c r).msCount = s.msCount := rfl
@[simp] theorem State.setReasons_reasons (s : State) (c : Channel) (r : Reasons) :
    (s.setReasons c r).reasons = s.reasons.set c.val r c.isLt := rfl
@[simp] theorem State.setReasons_causes (s : State) (c : Channel) (r : Reasons) : (s.setReasons c r).causes = s.causes :=
  rfl
@[simp] theorem State.setReasons_ctl (s : State) (c : Channel) (r : Reasons) : (s.setReasons c r).ctl = s.ctl := rfl
@[simp] theorem State.setReasons_port (s : State) (c : Channel) (r : Reasons) : (s.setReasons c r).port = s.port := rfl
@[simp] theorem State.setReasons_repairQueue (s : State) (c : Channel) (r : Reasons) :
    (s.setReasons c r).repairQueue = s.repairQueue := rfl
@[simp] theorem State.setReasons_lastSave (s : State) (c : Channel) (r : Reasons) :
    (s.setReasons c r).lastSave = s.lastSave := rfl
@[simp] theorem State.setReasons_lastLoad (s : State) (c : Channel) (r : Reasons) :
    (s.setReasons c r).lastLoad = s.lastLoad := rfl
@[simp] theorem State.setReasons_lastRepair (s : State) (c : Channel) (r : Reasons) :
    (s.setReasons c r).lastRepair = s.lastRepair := rfl
@[simp] theorem State.setReasons_scrubPos (s : State) (c : Channel) (r : Reasons) :
    (s.setReasons c r).scrubPos = s.scrubPos := rfl
@[simp] theorem State.setReasons_scrubCount (s : State) (c : Channel) (r : Reasons) :
    (s.setReasons c r).scrubCount = s.scrubCount := rfl
@[simp] theorem State.setReasons_mismatches (s : State) (c : Channel) (r : Reasons) :
    (s.setReasons c r).mismatches = s.mismatches := rfl
@[simp] theorem State.setReasons_held (s : State) (c : Channel) (r : Reasons) : (s.setReasons c r).held = s.held := rfl
@[simp] theorem State.setReasons_receiver (s : State) (c : Channel) (r : Reasons) :
    (s.setReasons c r).receiver = s.receiver := rfl
@[simp] theorem State.setReasons_response (s : State) (c : Channel) (r : Reasons) :
    (s.setReasons c r).response = s.response := rfl
@[simp] theorem State.setReasons_counter (s : State) (c : Channel) (r : Reasons) :
    (s.setReasons c r).counter = s.counter := rfl
@[simp] theorem State.setReasons_control (s : State) (c : Channel) (r : Reasons) :
    (s.setReasons c r).control = s.control := rfl
@[simp] theorem State.setReasons_sdo (s : State) (c : Channel) (r : Reasons) : (s.setReasons c r).sdo = s.sdo := rfl
@[simp] theorem State.setReasons_store (s : State) (c : Channel) (r : Reasons) : (s.setReasons c r).store = s.store :=
  rfl
@[simp] theorem State.setReasons_pending (s : State) (c : Channel) (r : Reasons) :
    (s.setReasons c r).pending = s.pending := rfl

@[simp] theorem State.slot_setReasons (s : State) (c : Channel) (r : Reasons) (i' : SlotIdx) :
    (s.setReasons c r).slot i' = s.slot i' := rfl
@[simp] theorem State.entry_setReasons (s : State) (c : Channel) (r : Reasons) (c' : Channel) :
    (s.setReasons c r).entry c' = s.entry c' := rfl
@[simp] theorem State.lane_setReasons (s : State) (c : Channel) (r : Reasons) (n' : LaneIdx) :
    (s.setReasons c r).lane n' = s.lane n' := rfl
@[simp] theorem State.context_setReasons (s : State) (c : Channel) (r : Reasons) (k' : CtxIdx) :
    (s.setReasons c r).context k' = s.context k' := rfl

/-! ### Fields after replacing a lane -/

@[simp] theorem State.setLane_map (s : State) (n : LaneIdx) (l : Lane) : (s.setLane n l).map = s.map := rfl
@[simp] theorem State.setLane_slots (s : State) (n : LaneIdx) (l : Lane) : (s.setLane n l).slots = s.slots := rfl
@[simp] theorem State.setLane_freeCells (s : State) (n : LaneIdx) (l : Lane) : (s.setLane n l).freeCells = s.freeCells :=
  rfl
@[simp] theorem State.setLane_epoch (s : State) (n : LaneIdx) (l : Lane) : (s.setLane n l).epoch = s.epoch := rfl
@[simp] theorem State.setLane_edits (s : State) (n : LaneIdx) (l : Lane) : (s.setLane n l).edits = s.edits := rfl
@[simp] theorem State.setLane_lease (s : State) (n : LaneIdx) (l : Lane) : (s.setLane n l).lease = s.lease := rfl
@[simp] theorem State.setLane_contexts (s : State) (n : LaneIdx) (l : Lane) : (s.setLane n l).contexts = s.contexts :=
  rfl
@[simp] theorem State.setLane_pointer (s : State) (n : LaneIdx) (l : Lane) : (s.setLane n l).pointer = s.pointer := rfl
@[simp] theorem State.setLane_hold (s : State) (n : LaneIdx) (l : Lane) : (s.setLane n l).hold = s.hold := rfl
@[simp] theorem State.setLane_probe (s : State) (n : LaneIdx) (l : Lane) : (s.setLane n l).probe = s.probe := rfl
@[simp] theorem State.setLane_lanes (s : State) (n : LaneIdx) (l : Lane) :
    (s.setLane n l).lanes = s.lanes.set n.val l n.isLt := rfl
@[simp] theorem State.setLane_partTime (s : State) (n : LaneIdx) (l : Lane) : (s.setLane n l).partTime = s.partTime :=
  rfl
@[simp] theorem State.setLane_msCount (s : State) (n : LaneIdx) (l : Lane) : (s.setLane n l).msCount = s.msCount := rfl
@[simp] theorem State.setLane_reasons (s : State) (n : LaneIdx) (l : Lane) : (s.setLane n l).reasons = s.reasons := rfl
@[simp] theorem State.setLane_causes (s : State) (n : LaneIdx) (l : Lane) : (s.setLane n l).causes = s.causes := rfl
@[simp] theorem State.setLane_ctl (s : State) (n : LaneIdx) (l : Lane) : (s.setLane n l).ctl = s.ctl := rfl
@[simp] theorem State.setLane_port (s : State) (n : LaneIdx) (l : Lane) : (s.setLane n l).port = s.port := rfl
@[simp] theorem State.setLane_repairQueue (s : State) (n : LaneIdx) (l : Lane) :
    (s.setLane n l).repairQueue = s.repairQueue := rfl
@[simp] theorem State.setLane_lastSave (s : State) (n : LaneIdx) (l : Lane) : (s.setLane n l).lastSave = s.lastSave :=
  rfl
@[simp] theorem State.setLane_lastLoad (s : State) (n : LaneIdx) (l : Lane) : (s.setLane n l).lastLoad = s.lastLoad :=
  rfl
@[simp] theorem State.setLane_lastRepair (s : State) (n : LaneIdx) (l : Lane) :
    (s.setLane n l).lastRepair = s.lastRepair := rfl
@[simp] theorem State.setLane_scrubPos (s : State) (n : LaneIdx) (l : Lane) : (s.setLane n l).scrubPos = s.scrubPos :=
  rfl
@[simp] theorem State.setLane_scrubCount (s : State) (n : LaneIdx) (l : Lane) :
    (s.setLane n l).scrubCount = s.scrubCount := rfl
@[simp] theorem State.setLane_mismatches (s : State) (n : LaneIdx) (l : Lane) :
    (s.setLane n l).mismatches = s.mismatches := rfl
@[simp] theorem State.setLane_held (s : State) (n : LaneIdx) (l : Lane) : (s.setLane n l).held = s.held := rfl
@[simp] theorem State.setLane_receiver (s : State) (n : LaneIdx) (l : Lane) : (s.setLane n l).receiver = s.receiver :=
  rfl
@[simp] theorem State.setLane_response (s : State) (n : LaneIdx) (l : Lane) : (s.setLane n l).response = s.response :=
  rfl
@[simp] theorem State.setLane_counter (s : State) (n : LaneIdx) (l : Lane) : (s.setLane n l).counter = s.counter := rfl
@[simp] theorem State.setLane_control (s : State) (n : LaneIdx) (l : Lane) : (s.setLane n l).control = s.control := rfl
@[simp] theorem State.setLane_sdo (s : State) (n : LaneIdx) (l : Lane) : (s.setLane n l).sdo = s.sdo := rfl
@[simp] theorem State.setLane_store (s : State) (n : LaneIdx) (l : Lane) : (s.setLane n l).store = s.store := rfl
@[simp] theorem State.setLane_pending (s : State) (n : LaneIdx) (l : Lane) : (s.setLane n l).pending = s.pending := rfl

@[simp] theorem State.slot_setLane (s : State) (n : LaneIdx) (l : Lane) (i' : SlotIdx) :
    (s.setLane n l).slot i' = s.slot i' := rfl
@[simp] theorem State.entry_setLane (s : State) (n : LaneIdx) (l : Lane) (c' : Channel) :
    (s.setLane n l).entry c' = s.entry c' := rfl
@[simp] theorem State.reasonsOf_setLane (s : State) (n : LaneIdx) (l : Lane) (c' : Channel) :
    (s.setLane n l).reasonsOf c' = s.reasonsOf c' := rfl
@[simp] theorem State.context_setLane (s : State) (n : LaneIdx) (l : Lane) (k' : CtxIdx) :
    (s.setLane n l).context k' = s.context k' := rfl

/-! ### Fields after replacing a lookup context -/

@[simp] theorem State.setContext_map (s : State) (k : CtxIdx) (l : Option Lookup) : (s.setContext k l).map = s.map :=
  rfl
@[simp] theorem State.setContext_slots (s : State) (k : CtxIdx) (l : Option Lookup) : (s.setContext k l).slots = s.slots :=
  rfl
@[simp] theorem State.setContext_freeCells (s : State) (k : CtxIdx) (l : Option Lookup) :
    (s.setContext k l).freeCells = s.freeCells := rfl
@[simp] theorem State.setContext_epoch (s : State) (k : CtxIdx) (l : Option Lookup) : (s.setContext k l).epoch = s.epoch :=
  rfl
@[simp] theorem State.setContext_edits (s : State) (k : CtxIdx) (l : Option Lookup) : (s.setContext k l).edits = s.edits :=
  rfl
@[simp] theorem State.setContext_lease (s : State) (k : CtxIdx) (l : Option Lookup) : (s.setContext k l).lease = s.lease :=
  rfl
@[simp] theorem State.setContext_contexts (s : State) (k : CtxIdx) (l : Option Lookup) :
    (s.setContext k l).contexts = s.contexts.set k.val l k.isLt := rfl
@[simp] theorem State.setContext_pointer (s : State) (k : CtxIdx) (l : Option Lookup) :
    (s.setContext k l).pointer = s.pointer := rfl
@[simp] theorem State.setContext_hold (s : State) (k : CtxIdx) (l : Option Lookup) : (s.setContext k l).hold = s.hold :=
  rfl
@[simp] theorem State.setContext_probe (s : State) (k : CtxIdx) (l : Option Lookup) : (s.setContext k l).probe = s.probe :=
  rfl
@[simp] theorem State.setContext_lanes (s : State) (k : CtxIdx) (l : Option Lookup) : (s.setContext k l).lanes = s.lanes :=
  rfl
@[simp] theorem State.setContext_partTime (s : State) (k : CtxIdx) (l : Option Lookup) :
    (s.setContext k l).partTime = s.partTime := rfl
@[simp] theorem State.setContext_msCount (s : State) (k : CtxIdx) (l : Option Lookup) :
    (s.setContext k l).msCount = s.msCount := rfl
@[simp] theorem State.setContext_reasons (s : State) (k : CtxIdx) (l : Option Lookup) :
    (s.setContext k l).reasons = s.reasons := rfl
@[simp] theorem State.setContext_causes (s : State) (k : CtxIdx) (l : Option Lookup) :
    (s.setContext k l).causes = s.causes := rfl
@[simp] theorem State.setContext_ctl (s : State) (k : CtxIdx) (l : Option Lookup) : (s.setContext k l).ctl = s.ctl :=
  rfl
@[simp] theorem State.setContext_port (s : State) (k : CtxIdx) (l : Option Lookup) : (s.setContext k l).port = s.port :=
  rfl
@[simp] theorem State.setContext_repairQueue (s : State) (k : CtxIdx) (l : Option Lookup) :
    (s.setContext k l).repairQueue = s.repairQueue := rfl
@[simp] theorem State.setContext_lastSave (s : State) (k : CtxIdx) (l : Option Lookup) :
    (s.setContext k l).lastSave = s.lastSave := rfl
@[simp] theorem State.setContext_lastLoad (s : State) (k : CtxIdx) (l : Option Lookup) :
    (s.setContext k l).lastLoad = s.lastLoad := rfl
@[simp] theorem State.setContext_lastRepair (s : State) (k : CtxIdx) (l : Option Lookup) :
    (s.setContext k l).lastRepair = s.lastRepair := rfl
@[simp] theorem State.setContext_scrubPos (s : State) (k : CtxIdx) (l : Option Lookup) :
    (s.setContext k l).scrubPos = s.scrubPos := rfl
@[simp] theorem State.setContext_scrubCount (s : State) (k : CtxIdx) (l : Option Lookup) :
    (s.setContext k l).scrubCount = s.scrubCount := rfl
@[simp] theorem State.setContext_mismatches (s : State) (k : CtxIdx) (l : Option Lookup) :
    (s.setContext k l).mismatches = s.mismatches := rfl
@[simp] theorem State.setContext_held (s : State) (k : CtxIdx) (l : Option Lookup) : (s.setContext k l).held = s.held :=
  rfl
@[simp] theorem State.setContext_receiver (s : State) (k : CtxIdx) (l : Option Lookup) :
    (s.setContext k l).receiver = s.receiver := rfl
@[simp] theorem State.setContext_response (s : State) (k : CtxIdx) (l : Option Lookup) :
    (s.setContext k l).response = s.response := rfl
@[simp] theorem State.setContext_counter (s : State) (k : CtxIdx) (l : Option Lookup) :
    (s.setContext k l).counter = s.counter := rfl
@[simp] theorem State.setContext_control (s : State) (k : CtxIdx) (l : Option Lookup) :
    (s.setContext k l).control = s.control := rfl
@[simp] theorem State.setContext_sdo (s : State) (k : CtxIdx) (l : Option Lookup) : (s.setContext k l).sdo = s.sdo :=
  rfl
@[simp] theorem State.setContext_store (s : State) (k : CtxIdx) (l : Option Lookup) : (s.setContext k l).store = s.store :=
  rfl
@[simp] theorem State.setContext_pending (s : State) (k : CtxIdx) (l : Option Lookup) :
    (s.setContext k l).pending = s.pending := rfl

@[simp] theorem State.slot_setContext (s : State) (k : CtxIdx) (l : Option Lookup) (i' : SlotIdx) :
    (s.setContext k l).slot i' = s.slot i' := rfl
@[simp] theorem State.entry_setContext (s : State) (k : CtxIdx) (l : Option Lookup) (c' : Channel) :
    (s.setContext k l).entry c' = s.entry c' := rfl
@[simp] theorem State.reasonsOf_setContext (s : State) (k : CtxIdx) (l : Option Lookup) (c' : Channel) :
    (s.setContext k l).reasonsOf c' = s.reasonsOf c' := rfl
@[simp] theorem State.lane_setContext (s : State) (k : CtxIdx) (l : Option Lookup) (n' : LaneIdx) :
    (s.setContext k l).lane n' = s.lane n' := rfl

/-! ### Fields after latching a cause -/

@[simp] theorem State.latch_map (s : State) (c : Causes) : (s.latch c).map = s.map := rfl
@[simp] theorem State.latch_slots (s : State) (c : Causes) : (s.latch c).slots = s.slots := rfl
@[simp] theorem State.latch_freeCells (s : State) (c : Causes) : (s.latch c).freeCells = s.freeCells := rfl
@[simp] theorem State.latch_epoch (s : State) (c : Causes) : (s.latch c).epoch = s.epoch := rfl
@[simp] theorem State.latch_edits (s : State) (c : Causes) : (s.latch c).edits = s.edits := rfl
@[simp] theorem State.latch_lease (s : State) (c : Causes) : (s.latch c).lease = s.lease := rfl
@[simp] theorem State.latch_contexts (s : State) (c : Causes) : (s.latch c).contexts = s.contexts := rfl
@[simp] theorem State.latch_pointer (s : State) (c : Causes) : (s.latch c).pointer = s.pointer := rfl
@[simp] theorem State.latch_hold (s : State) (c : Causes) : (s.latch c).hold = s.hold := rfl
@[simp] theorem State.latch_probe (s : State) (c : Causes) : (s.latch c).probe = s.probe := rfl
@[simp] theorem State.latch_lanes (s : State) (c : Causes) : (s.latch c).lanes = s.lanes := rfl
@[simp] theorem State.latch_partTime (s : State) (c : Causes) : (s.latch c).partTime = s.partTime := rfl
@[simp] theorem State.latch_msCount (s : State) (c : Causes) : (s.latch c).msCount = s.msCount := rfl
@[simp] theorem State.latch_reasons (s : State) (c : Causes) : (s.latch c).reasons = s.reasons := rfl
@[simp] theorem State.latch_causes (s : State) (c : Causes) : (s.latch c).causes = s.causes ||| c := rfl
@[simp] theorem State.latch_ctl (s : State) (c : Causes) : (s.latch c).ctl = s.ctl := rfl
@[simp] theorem State.latch_port (s : State) (c : Causes) : (s.latch c).port = s.port := rfl
@[simp] theorem State.latch_repairQueue (s : State) (c : Causes) : (s.latch c).repairQueue = s.repairQueue := rfl
@[simp] theorem State.latch_lastSave (s : State) (c : Causes) : (s.latch c).lastSave = s.lastSave := rfl
@[simp] theorem State.latch_lastLoad (s : State) (c : Causes) : (s.latch c).lastLoad = s.lastLoad := rfl
@[simp] theorem State.latch_lastRepair (s : State) (c : Causes) : (s.latch c).lastRepair = s.lastRepair := rfl
@[simp] theorem State.latch_scrubPos (s : State) (c : Causes) : (s.latch c).scrubPos = s.scrubPos := rfl
@[simp] theorem State.latch_scrubCount (s : State) (c : Causes) : (s.latch c).scrubCount = s.scrubCount := rfl
@[simp] theorem State.latch_mismatches (s : State) (c : Causes) : (s.latch c).mismatches = s.mismatches := rfl
@[simp] theorem State.latch_held (s : State) (c : Causes) : (s.latch c).held = s.held := rfl
@[simp] theorem State.latch_receiver (s : State) (c : Causes) : (s.latch c).receiver = s.receiver := rfl
@[simp] theorem State.latch_response (s : State) (c : Causes) : (s.latch c).response = s.response := rfl
@[simp] theorem State.latch_counter (s : State) (c : Causes) : (s.latch c).counter = s.counter := rfl
@[simp] theorem State.latch_control (s : State) (c : Causes) : (s.latch c).control = s.control := rfl
@[simp] theorem State.latch_sdo (s : State) (c : Causes) : (s.latch c).sdo = s.sdo := rfl
@[simp] theorem State.latch_store (s : State) (c : Causes) : (s.latch c).store = s.store := rfl
@[simp] theorem State.latch_pending (s : State) (c : Causes) : (s.latch c).pending = s.pending := rfl

@[simp] theorem State.slot_latch (s : State) (c : Causes) (i' : SlotIdx) : (s.latch c).slot i' = s.slot i' := rfl
@[simp] theorem State.entry_latch (s : State) (c : Causes) (c' : Channel) : (s.latch c).entry c' = s.entry c' := rfl
@[simp] theorem State.reasonsOf_latch (s : State) (c : Causes) (c' : Channel) :
    (s.latch c).reasonsOf c' = s.reasonsOf c' := rfl
@[simp] theorem State.lane_latch (s : State) (c : Causes) (n' : LaneIdx) : (s.latch c).lane n' = s.lane n' := rfl
@[simp] theorem State.context_latch (s : State) (c : Causes) (k' : CtxIdx) :
    (s.latch c).context k' = s.context k' := rfl

/-! ### Fields after issuing a transfer -/

@[simp] theorem State.issue_map (s : State) (a : Nat) (k : TransferKind) : (s.issue a k).map = s.map := rfl
@[simp] theorem State.issue_slots (s : State) (a : Nat) (k : TransferKind) : (s.issue a k).slots = s.slots := rfl
@[simp] theorem State.issue_freeCells (s : State) (a : Nat) (k : TransferKind) : (s.issue a k).freeCells = s.freeCells :=
  rfl
@[simp] theorem State.issue_epoch (s : State) (a : Nat) (k : TransferKind) : (s.issue a k).epoch = s.epoch := rfl
@[simp] theorem State.issue_edits (s : State) (a : Nat) (k : TransferKind) : (s.issue a k).edits = s.edits := rfl
@[simp] theorem State.issue_lease (s : State) (a : Nat) (k : TransferKind) : (s.issue a k).lease = s.lease := rfl
@[simp] theorem State.issue_contexts (s : State) (a : Nat) (k : TransferKind) : (s.issue a k).contexts = s.contexts :=
  rfl
@[simp] theorem State.issue_pointer (s : State) (a : Nat) (k : TransferKind) : (s.issue a k).pointer = s.pointer := rfl
@[simp] theorem State.issue_hold (s : State) (a : Nat) (k : TransferKind) : (s.issue a k).hold = s.hold := rfl
@[simp] theorem State.issue_probe (s : State) (a : Nat) (k : TransferKind) : (s.issue a k).probe = s.probe := rfl
@[simp] theorem State.issue_lanes (s : State) (a : Nat) (k : TransferKind) : (s.issue a k).lanes = s.lanes := rfl
@[simp] theorem State.issue_partTime (s : State) (a : Nat) (k : TransferKind) : (s.issue a k).partTime = s.partTime :=
  rfl
@[simp] theorem State.issue_msCount (s : State) (a : Nat) (k : TransferKind) : (s.issue a k).msCount = s.msCount := rfl
@[simp] theorem State.issue_reasons (s : State) (a : Nat) (k : TransferKind) : (s.issue a k).reasons = s.reasons := rfl
@[simp] theorem State.issue_causes (s : State) (a : Nat) (k : TransferKind) : (s.issue a k).causes = s.causes := rfl
@[simp] theorem State.issue_ctl (s : State) (a : Nat) (k : TransferKind) : (s.issue a k).ctl = s.ctl := rfl
@[simp] theorem State.issue_port (s : State) (a : Nat) (k : TransferKind) :
    (s.issue a k).port = some { address := a, kind := k, finishing := false, ticks := 0 } := rfl
@[simp] theorem State.issue_repairQueue (s : State) (a : Nat) (k : TransferKind) :
    (s.issue a k).repairQueue = s.repairQueue := rfl
@[simp] theorem State.issue_lastSave (s : State) (a : Nat) (k : TransferKind) : (s.issue a k).lastSave = s.lastSave :=
  rfl
@[simp] theorem State.issue_lastLoad (s : State) (a : Nat) (k : TransferKind) : (s.issue a k).lastLoad = s.lastLoad :=
  rfl
@[simp] theorem State.issue_lastRepair (s : State) (a : Nat) (k : TransferKind) :
    (s.issue a k).lastRepair = s.lastRepair := rfl
@[simp] theorem State.issue_scrubPos (s : State) (a : Nat) (k : TransferKind) : (s.issue a k).scrubPos = s.scrubPos :=
  rfl
@[simp] theorem State.issue_scrubCount (s : State) (a : Nat) (k : TransferKind) :
    (s.issue a k).scrubCount = s.scrubCount := rfl
@[simp] theorem State.issue_mismatches (s : State) (a : Nat) (k : TransferKind) :
    (s.issue a k).mismatches = s.mismatches := rfl
@[simp] theorem State.issue_held (s : State) (a : Nat) (k : TransferKind) : (s.issue a k).held = s.held := rfl
@[simp] theorem State.issue_receiver (s : State) (a : Nat) (k : TransferKind) : (s.issue a k).receiver = s.receiver :=
  rfl
@[simp] theorem State.issue_response (s : State) (a : Nat) (k : TransferKind) : (s.issue a k).response = s.response :=
  rfl
@[simp] theorem State.issue_counter (s : State) (a : Nat) (k : TransferKind) : (s.issue a k).counter = s.counter := rfl
@[simp] theorem State.issue_control (s : State) (a : Nat) (k : TransferKind) : (s.issue a k).control = s.control := rfl
@[simp] theorem State.issue_sdo (s : State) (a : Nat) (k : TransferKind) : (s.issue a k).sdo = s.sdo := rfl
@[simp] theorem State.issue_store (s : State) (a : Nat) (k : TransferKind) : (s.issue a k).store = s.store := rfl
@[simp] theorem State.issue_pending (s : State) (a : Nat) (k : TransferKind) : (s.issue a k).pending = s.pending := rfl

@[simp] theorem State.slot_issue (s : State) (a : Nat) (k : TransferKind) (i' : SlotIdx) :
    (s.issue a k).slot i' = s.slot i' := rfl
@[simp] theorem State.entry_issue (s : State) (a : Nat) (k : TransferKind) (c' : Channel) :
    (s.issue a k).entry c' = s.entry c' := rfl
@[simp] theorem State.reasonsOf_issue (s : State) (a : Nat) (k : TransferKind) (c' : Channel) :
    (s.issue a k).reasonsOf c' = s.reasonsOf c' := rfl
@[simp] theorem State.lane_issue (s : State) (a : Nat) (k : TransferKind) (n' : LaneIdx) :
    (s.issue a k).lane n' = s.lane n' := rfl
@[simp] theorem State.context_issue (s : State) (a : Nat) (k : TransferKind) (k' : CtxIdx) :
    (s.issue a k).context k' = s.context k' := rfl

/-! ### Fields after restarting the lease timer -/

@[simp] theorem State.restartLease_map (s : State) : (s.restartLease).map = s.map := rfl
@[simp] theorem State.restartLease_slots (s : State) : (s.restartLease).slots = s.slots := rfl
@[simp] theorem State.restartLease_freeCells (s : State) : (s.restartLease).freeCells = s.freeCells := rfl
@[simp] theorem State.restartLease_epoch (s : State) : (s.restartLease).epoch = s.epoch := rfl
@[simp] theorem State.restartLease_edits (s : State) : (s.restartLease).edits = s.edits := rfl
@[simp] theorem State.restartLease_lease (s : State) :
    (s.restartLease).lease = if s.control.lease = 0#8 then .untimed else .counting s.control.lease 0 := rfl
@[simp] theorem State.restartLease_contexts (s : State) : (s.restartLease).contexts = s.contexts := rfl
@[simp] theorem State.restartLease_pointer (s : State) : (s.restartLease).pointer = s.pointer := rfl
@[simp] theorem State.restartLease_hold (s : State) : (s.restartLease).hold = s.hold := rfl
@[simp] theorem State.restartLease_probe (s : State) : (s.restartLease).probe = s.probe := rfl
@[simp] theorem State.restartLease_lanes (s : State) : (s.restartLease).lanes = s.lanes := rfl
@[simp] theorem State.restartLease_partTime (s : State) : (s.restartLease).partTime = s.partTime := rfl
@[simp] theorem State.restartLease_msCount (s : State) : (s.restartLease).msCount = s.msCount := rfl
@[simp] theorem State.restartLease_reasons (s : State) : (s.restartLease).reasons = s.reasons := rfl
@[simp] theorem State.restartLease_causes (s : State) : (s.restartLease).causes = s.causes := rfl
@[simp] theorem State.restartLease_ctl (s : State) : (s.restartLease).ctl = s.ctl := rfl
@[simp] theorem State.restartLease_port (s : State) : (s.restartLease).port = s.port := rfl
@[simp] theorem State.restartLease_repairQueue (s : State) : (s.restartLease).repairQueue = s.repairQueue := rfl
@[simp] theorem State.restartLease_lastSave (s : State) : (s.restartLease).lastSave = s.lastSave := rfl
@[simp] theorem State.restartLease_lastLoad (s : State) : (s.restartLease).lastLoad = s.lastLoad := rfl
@[simp] theorem State.restartLease_lastRepair (s : State) : (s.restartLease).lastRepair = s.lastRepair := rfl
@[simp] theorem State.restartLease_scrubPos (s : State) : (s.restartLease).scrubPos = s.scrubPos := rfl
@[simp] theorem State.restartLease_scrubCount (s : State) : (s.restartLease).scrubCount = s.scrubCount := rfl
@[simp] theorem State.restartLease_mismatches (s : State) : (s.restartLease).mismatches = s.mismatches := rfl
@[simp] theorem State.restartLease_held (s : State) : (s.restartLease).held = s.held := rfl
@[simp] theorem State.restartLease_receiver (s : State) : (s.restartLease).receiver = s.receiver := rfl
@[simp] theorem State.restartLease_response (s : State) : (s.restartLease).response = s.response := rfl
@[simp] theorem State.restartLease_counter (s : State) : (s.restartLease).counter = s.counter := rfl
@[simp] theorem State.restartLease_control (s : State) : (s.restartLease).control = s.control := rfl
@[simp] theorem State.restartLease_sdo (s : State) : (s.restartLease).sdo = s.sdo := rfl
@[simp] theorem State.restartLease_store (s : State) : (s.restartLease).store = s.store := rfl
@[simp] theorem State.restartLease_pending (s : State) : (s.restartLease).pending = s.pending := rfl

@[simp] theorem State.slot_restartLease (s : State) (i' : SlotIdx) : (s.restartLease).slot i' = s.slot i' := rfl
@[simp] theorem State.entry_restartLease (s : State) (c' : Channel) : (s.restartLease).entry c' = s.entry c' := rfl
@[simp] theorem State.reasonsOf_restartLease (s : State) (c' : Channel) :
    (s.restartLease).reasonsOf c' = s.reasonsOf c' := rfl
@[simp] theorem State.lane_restartLease (s : State) (n' : LaneIdx) : (s.restartLease).lane n' = s.lane n' := rfl
@[simp] theorem State.context_restartLease (s : State) (k' : CtxIdx) : (s.restartLease).context k' = s.context k' := rfl

/-! ### Fields after counting a taken frame -/

@[simp] theorem State.count_map (s : State) : (s.count).map = s.map := rfl
@[simp] theorem State.count_slots (s : State) : (s.count).slots = s.slots := rfl
@[simp] theorem State.count_freeCells (s : State) : (s.count).freeCells = s.freeCells := rfl
@[simp] theorem State.count_epoch (s : State) : (s.count).epoch = s.epoch := rfl
@[simp] theorem State.count_edits (s : State) : (s.count).edits = s.edits := rfl
@[simp] theorem State.count_lease (s : State) : (s.count).lease = s.lease := rfl
@[simp] theorem State.count_contexts (s : State) : (s.count).contexts = s.contexts := rfl
@[simp] theorem State.count_pointer (s : State) : (s.count).pointer = s.pointer := rfl
@[simp] theorem State.count_hold (s : State) : (s.count).hold = s.hold := rfl
@[simp] theorem State.count_probe (s : State) : (s.count).probe = s.probe := rfl
@[simp] theorem State.count_lanes (s : State) : (s.count).lanes = s.lanes := rfl
@[simp] theorem State.count_partTime (s : State) : (s.count).partTime = s.partTime := rfl
@[simp] theorem State.count_msCount (s : State) : (s.count).msCount = s.msCount := rfl
@[simp] theorem State.count_reasons (s : State) : (s.count).reasons = s.reasons := rfl
@[simp] theorem State.count_causes (s : State) : (s.count).causes = s.causes := rfl
@[simp] theorem State.count_ctl (s : State) : (s.count).ctl = s.ctl := rfl
@[simp] theorem State.count_port (s : State) : (s.count).port = s.port := rfl
@[simp] theorem State.count_repairQueue (s : State) : (s.count).repairQueue = s.repairQueue := rfl
@[simp] theorem State.count_lastSave (s : State) : (s.count).lastSave = s.lastSave := rfl
@[simp] theorem State.count_lastLoad (s : State) : (s.count).lastLoad = s.lastLoad := rfl
@[simp] theorem State.count_lastRepair (s : State) : (s.count).lastRepair = s.lastRepair := rfl
@[simp] theorem State.count_scrubPos (s : State) : (s.count).scrubPos = s.scrubPos := rfl
@[simp] theorem State.count_scrubCount (s : State) : (s.count).scrubCount = s.scrubCount := rfl
@[simp] theorem State.count_mismatches (s : State) : (s.count).mismatches = s.mismatches := rfl
@[simp] theorem State.count_held (s : State) : (s.count).held = s.held := rfl
@[simp] theorem State.count_receiver (s : State) : (s.count).receiver = s.receiver := rfl
@[simp] theorem State.count_response (s : State) : (s.count).response = s.response := rfl
@[simp] theorem State.count_counter (s : State) : (s.count).counter = s.counter + 1#8 := rfl
@[simp] theorem State.count_control (s : State) : (s.count).control = s.control := rfl
@[simp] theorem State.count_sdo (s : State) : (s.count).sdo = s.sdo := rfl
@[simp] theorem State.count_store (s : State) : (s.count).store = s.store := rfl
@[simp] theorem State.count_pending (s : State) : (s.count).pending = s.pending := rfl

@[simp] theorem State.slot_count (s : State) (i' : SlotIdx) : (s.count).slot i' = s.slot i' := rfl
@[simp] theorem State.entry_count (s : State) (c' : Channel) : (s.count).entry c' = s.entry c' := rfl
@[simp] theorem State.reasonsOf_count (s : State) (c' : Channel) : (s.count).reasonsOf c' = s.reasonsOf c' := rfl
@[simp] theorem State.lane_count (s : State) (n' : LaneIdx) : (s.count).lane n' = s.lane n' := rfl
@[simp] theorem State.context_count (s : State) (k' : CtxIdx) : (s.count).context k' = s.context k' := rfl

/-! ### Reading back what was replaced -/

@[simp] theorem State.slot_setSlot_same (s : State) (i : SlotIdx) (v : Slot) : (s.setSlot i v).slot i = v :=
  vector_get_set_same _ _ _

theorem State.slot_setSlot_other (s : State) (i : SlotIdx) (v : Slot) (i' : SlotIdx) (h : i' ≠ i) :
    (s.setSlot i v).slot i' = s.slot i' :=
  vector_get_set_other _ _ _ _ h

@[simp] theorem State.entry_setEntry_same (s : State) (c : Channel) (e : MapEntry) : (s.setEntry c e).entry c = e :=
  vector_get_set_same _ _ _

theorem State.entry_setEntry_other (s : State) (c : Channel) (e : MapEntry) (c' : Channel) (h : c' ≠ c) :
    (s.setEntry c e).entry c' = s.entry c' :=
  vector_get_set_other _ _ _ _ h

@[simp] theorem State.reasonsOf_setReasons_same (s : State) (c : Channel) (r : Reasons) : (s.setReasons c r).reasonsOf c = r :=
  vector_get_set_same _ _ _

theorem State.reasonsOf_setReasons_other (s : State) (c : Channel) (r : Reasons) (c' : Channel) (h : c' ≠ c) :
    (s.setReasons c r).reasonsOf c' = s.reasonsOf c' :=
  vector_get_set_other _ _ _ _ h

@[simp] theorem State.lane_setLane_same (s : State) (n : LaneIdx) (l : Lane) : (s.setLane n l).lane n = l :=
  vector_get_set_same _ _ _

theorem State.lane_setLane_other (s : State) (n : LaneIdx) (l : Lane) (n' : LaneIdx) (h : n' ≠ n) :
    (s.setLane n l).lane n' = s.lane n' :=
  vector_get_set_other _ _ _ _ h

@[simp] theorem State.context_setContext_same (s : State) (k : CtxIdx) (l : Option Lookup) : (s.setContext k l).context k = l :=
  vector_get_set_same _ _ _

theorem State.context_setContext_other (s : State) (k : CtxIdx) (l : Option Lookup) (k' : CtxIdx) (h : k' ≠ k) :
    (s.setContext k l).context k' = s.context k' :=
  vector_get_set_other _ _ _ _ h

/-- The reset state reads as R24 says: every slot blank. -/
@[simp] theorem State.slot_reset (i : SlotIdx) : State.reset.slot i = Slot.blank := vector_get_replicate _ _

/-- Every map entry UNASSIGNED with revision 0 after a reset (R24). -/
@[simp] theorem State.entry_reset (c : Channel) : State.reset.entry c = MapEntry.blank := vector_get_replicate _ _

/-- No channel holds a reason after a reset. -/
@[simp] theorem State.reasonsOf_reset (c : Channel) : State.reset.reasonsOf c = 0#5 := vector_get_replicate _ _

/-- Every lane empty after a reset. -/
@[simp] theorem State.lane_reset (n : LaneIdx) : State.reset.lane n = Lane.blank := vector_get_replicate _ _

/-- Every context free after a reset. -/
@[simp] theorem State.context_reset (k : CtxIdx) : State.reset.context k = none := vector_get_replicate _ _

/-- Every slot blank after the table clear (R163). -/
@[simp] theorem State.slot_clearTable (s : State) (i : SlotIdx) : s.clearTable.slot i = Slot.blank :=
  vector_get_replicate _ _

/-- Every entry UNASSIGNED with revision 0 after the table clear (R163). -/
@[simp] theorem State.entry_clearTable (s : State) (c : Channel) : s.clearTable.entry c = MapEntry.blank :=
  vector_get_replicate _ _

/-- No reason is held after the table clear (R163). -/
@[simp] theorem State.reasonsOf_clearTable (s : State) (c : Channel) : s.clearTable.reasonsOf c = 0#5 :=
  vector_get_replicate _ _

end Sys2Proof.Machine
end

