-- ==== Sys2Proof/Laws/Ops.lean ====
section
/-! SUPPORT. One law per shared operation, in the words of `Sys2Proof.Safety`: what each of them does, so that a proof
about a command cites it in place of unfolding it. -/

namespace Sys2Proof.Machine

/-! ### The host port -/

/-- A heard frame is counted, run and answered (R191). -/
theorem State.takeFrame_heard {s : State} (h : s.hears) (k : CommandCode) (run : State → Answer) :
    s.takeFrame k run = (run s.count).respond k := by
  obtain ⟨h1, h2, h3⟩ := h
  simp [State.takeFrame, State.portOpen, h1, h2, State.probePending, h3]

/-- A closed port takes no frame (R202). -/
theorem State.takeFrame_closed {s : State} (h : s.portOpen = false) (k : CommandCode) (run : State → Answer) :
    s.takeFrame k run = s := by simp [State.takeFrame, h]

/-- A frame at an open port with a probe pending is refused (R194). -/
theorem State.takeFrame_pending {s : State} (h : s.portOpen = true) (hp : s.probe ≠ .none) (k : CommandCode)
    (run : State → Answer) : s.takeFrame k run = s.refuseFrame := by
  simp [State.takeFrame, h, State.probePending, hp]

/-- An answer puts its status and payload into the buffer with the counter as it stands. -/
theorem Answer.respond_counted (s : State) (st : Status) (payload : List Byte) (k : CommandCode) :
    Answer.respond { state := s.count, status := st, payload } k = s.answered k st payload := rfl

/-- Out of reset an event is taken. -/
theorem State.awake_running {s : State} (h : s.held = false) (f : State → State) : s.awake f = f s := by
  simp [State.awake, h]

/-- Held in reset an event is not taken (log entry 12). -/
theorem State.awake_held {s : State} (h : s.held = true) (f : State → State) : s.awake f = s := by
  simp [State.awake, h]

/-! ### The record store -/

/-- The lowest FREE slot is the one found (R8). -/
theorem State.lowestFree_of {s : State} {i : SlotIdx} (h : s.isLowestFree i) : s.lowestFree = some i := by
  simp only [State.lowestFree, List.find?_eq_some_iff_getElem]
  refine ⟨by simp [h.1], i.val, by simp, by simp, ?_⟩
  intro j hj
  have := h.2 ⟨j, by omega⟩ (by simpa [Fin.lt_def] using hj)
  simpa using this

/-- With no FREE slot none is found (R8). -/
theorem State.lowestFree_none {s : State} (h : ∀ i, (s.slot i).state ≠ .free) : s.lowestFree = none := by
  simp [State.lowestFree]
  exact h

/-- Where some slot is FREE the lowest one is found. -/
theorem State.lowestFree_some {s : State} (h : ∃ i, (s.slot i).state = .free) : ∃ i, s.lowestFree = some i := by
  obtain ⟨i, hi⟩ := h
  cases hf : s.lowestFree with
  | some j => exact ⟨j, rfl⟩
  | none =>
    simp [State.lowestFree] at hf
    exact absurd hi (hf i)

/-- What a release does to the slot and the pool (R11, R13, R17). -/
theorem State.release_eq (s : State) (i : SlotIdx) :
    s.release i =
      { s.setSlot i (s.slot i).released with
        freeCells := s.freeCells + if (s.slot i).pins = 0 then (s.slot i).content.points.length else 0 } := by
  unfold State.release Slot.released State.freeSlot
  split <;> rfl

/-- What a completion does to the slot it pinned and to the pool (R14, R15, R17). -/
theorem State.unpin_eq (s : State) (i : SlotIdx) :
    s.unpin i =
      { s.setSlot i (s.slot i).unpinned with
        freeCells := s.freeCells +
          if (s.slot i).state = .draining ∧ (s.slot i).pins ≤ 1 then (s.slot i).content.points.length else 0 } := by
  unfold State.unpin Slot.unpinned State.freeSlot
  split <;> rfl

/-- A channel is bound to the slot its entry names. -/
theorem State.boundSlot_iff (s : State) (c : Channel) (i : SlotIdx) :
    s.boundSlot c = some i ↔ (s.entry c).binding = .bound i := by
  unfold State.boundSlot
  split <;> simp_all

/-- Under the binding law no two channels are bound to one slot (R1). -/
theorem State.bound_unique {s : State} (hl : s.bindingLaw) {c d : Channel} {i : SlotIdx}
    (hc : (s.entry c).binding = .bound i) (hd : (s.entry d).binding = .bound i) : c = d := by
  by_contra hne
  have h1 : s.boundCount i ≤ 1 := by
    rw [hl i]
    split <;> omega
  have h2 : [c, d].length ≤ ((List.finRange 256).filter fun x => s.boundSlot x == some i).length := by
    refine List.Nodup.length_le_of_subset (by simpa using hne) ?_
    intro x hx
    simp only [List.mem_cons, List.not_mem_nil, or_false] at hx
    rcases hx with rfl | rfl
    · simp [(s.boundSlot_iff _ i).2 hc]
    · simp [(s.boundSlot_iff _ i).2 hd]
  rw [State.boundCount, List.countP_eq_length_filter] at h1
  simp only [List.length_cons, List.length_nil] at h2
  omega

/-- Under the binding law a reason for a slot goes to the channel bound to it (R126). -/
theorem State.channelOf_bound {s : State} (hl : s.bindingLaw) {c : Channel} {i : SlotIdx}
    (hc : (s.entry c).binding = .bound i) : s.channelOf i = some c := by
  cases hf : s.channelOf i with
  | none =>
    simp only [State.channelOf, List.find?_eq_none] at hf
    exact absurd ((s.boundSlot_iff c i).2 hc) (by simpa using hf c (by simp))
  | some d =>
    have hd := List.find?_some hf
    simp only [beq_iff_eq] at hd
    rw [State.bound_unique hl hc ((s.boundSlot_iff d i).1 hd)]

/-- A queued mismatch: appended where the channel is not yet queued and there is room (R176). -/
theorem State.queueRepair_eq (s : State) (c : Channel) :
    s.queueRepair c =
      { s with
        repairQueue := if c ∈ s.repairQueue ∨ 8 ≤ s.repairQueue.length then s.repairQueue
                       else s.repairQueue ++ [c] } := by
  unfold State.queueRepair
  have hc : (s.repairQueue.contains c || decide (Config.repairDepth ≤ s.repairQueue.length)) = true ↔
      c ∈ s.repairQueue ∨ 8 ≤ s.repairQueue.length := by
    simp only [Bool.or_eq_true, List.contains_iff_mem, decide_eq_true_eq]
    rfl
  by_cases h : c ∈ s.repairQueue ∨ 8 ≤ s.repairQueue.length
  · rw [if_pos h, if_pos (hc.2 h)]
  · rw [if_neg h, if_neg (mt hc.1 h)]

/-- The four effects of a mismatch on a slot, under the binding law of the table it is found in (R176). -/
theorem State.mismatch_eq {s : State} (hl : s.bindingLaw) {c : Channel} {i : SlotIdx}
    (hc : (s.entry c).binding = .bound i) :
    s.mismatch i =
      { (s.setSlot i { s.slot i with state := .suspect }).setReasons c (s.reasonsOf c ||| suspectBit) with
        mismatches := if s.mismatches < 255 then s.mismatches + 1 else 255
        repairQueue := if c ∈ s.repairQueue ∨ 8 ≤ s.repairQueue.length then s.repairQueue
                       else s.repairQueue ++ [c] } := by
  have h1 : ∀ x n, State.channelOf { s.setSlot i x with mismatches := n } i = some c := fun x n =>
    State.channelOf_bound hl hc
  have h2 : min 255 (s.mismatches + 1) = if s.mismatches < 255 then s.mismatches + 1 else 255 := by
    split <;> omega
  unfold State.mismatch
  simp only [h1, State.queueRepair_eq, h2]
  rfl

/-- No slot is pinned (R162). -/
theorem State.unpinned_iff (s : State) : s.unpinned = true ↔ ∀ i, (s.slot i).pins = 0 := by
  simp [State.unpinned]

/-- Some slot is SUSPECT (R147). -/
theorem State.anySuspect_iff (s : State) : s.anySuspect = true ↔ ∃ i, (s.slot i).state = .suspect := by
  simp [State.anySuspect]

/-- A content check passes when the recomputed CRC is the stored one (R5). -/
theorem contentSound_iff (c : Content) : contentSound c = true ↔ contentCrc c = c.crc := by simp [contentSound]

/-! ### The edit set -/

/-- No entry names the channel. -/
theorem State.findEdit_none_iff (s : State) (c : Channel) : s.findEdit c = none ↔ ∀ e ∈ s.edits, e.channel ≠ c := by
  simp [State.findEdit]

/-- The entry found is the first that names the channel. -/
theorem State.findEdit_first {s : State} {c : Channel} {before after : List Entry} {e : Entry}
    (h : s.edits = before ++ e :: after) (he : e.channel = c) (hb : ∀ d ∈ before, d.channel ≠ c) :
    s.findEdit c = some e := by
  have : before.find? (fun e => e.channel == c) = none := by simpa using hb
  simp [State.findEdit, h, this, he]

/-! ### Pins and lookups in flight -/

/-- Where every lookup in flight pins a slot, a drain waits for the pins alone, as R162 words it. The two differ only by a
lookup granted without a slot (R99, R103; log entry 13). -/
theorem State.drained_of_pinning {s : State} (hp : s.pinLaw) (hl : ∀ k l, s.context k = some l → l.pinned ≠ none) :
    s.drained = s.unpinned := by
  unfold State.drained
  cases hu : s.unpinned with
  | false => rfl
  | true =>
    refine List.all_eq_true.2 fun k _ => ?_
    cases hc : s.context k with
    | none => rfl
    | some l =>
      obtain ⟨i, hi⟩ := Option.ne_none_iff_exists'.1 (hl k l hc)
      have h0 : s.pinCount i = 0 := (hp i).1.symm.trans ((State.unpinned_iff s).1 hu i)
      have := List.countP_eq_zero.1 h0 k (List.mem_finRange k)
      simp [State.pinnedBy, hc, hi] at this

/-! ### Discarding the edit set -/

/-- A slot replaced changes the cells in use by the difference of the two contents (R20). -/
theorem State.cellsUsed_setSlot (s : State) (i : SlotIdx) (v : Slot) :
    (s.setSlot i v).cellsUsed + (s.slot i).content.points.length = s.cellsUsed + v.content.points.length := by
  have total (t : State) : t.cellsUsed =
      (t.slot i).content.points.length + ∑ j ∈ Finset.univ.erase i, (t.slot j).content.points.length :=
    (Fin.sum_univ_def fun j => (t.slot j).content.points.length).symm.trans
      (Finset.add_sum_erase _ _ (Finset.mem_univ i)).symm
  have others : ∑ j ∈ Finset.univ.erase i, ((s.setSlot i v).slot j).content.points.length =
      ∑ j ∈ Finset.univ.erase i, (s.slot j).content.points.length :=
    Finset.sum_congr rfl fun j hj => by rw [State.slot_setSlot_other _ _ _ _ (Finset.ne_of_mem_erase hj)]
  rw [total, total s, others, State.slot_setSlot_same]
  omega

/-- A release moves cells to the pool and loses none (R17, R20). -/
theorem State.release_cells (s : State) (i : SlotIdx) :
    (s.release i).freeCells + (s.release i).cellsUsed = s.freeCells + s.cellsUsed := by
  have h := State.cellsUsed_setSlot s i (s.slot i).released
  rw [State.release_eq]
  show s.freeCells + _ + (s.setSlot i (s.slot i).released).cellsUsed = _
  unfold Slot.released at *
  split at * <;> simp_all [Slot.blank, blankContent]; omega

/-- What discarding every entry does, no slot being named twice: each named slot is released, cells move to the pool, and
nothing else changes (R11, R62, R65). -/
theorem State.discardAll_eq (es : List Entry) : ∀ s : State, (es.filterMap Entry.slot).Nodup →
    let t := es.foldl State.discard s
    t = { s with slots := t.slots, freeCells := t.freeCells } ∧
      t.freeCells + t.cellsUsed = s.freeCells + s.cellsUsed ∧
      ∀ i, t.slot i = if i ∈ es.filterMap Entry.slot then (s.slot i).released else s.slot i := by
  induction es with
  | nil => intro s _; simp
  | cons e es ih =>
    intro s hn
    rw [List.foldl_cons]
    cases he : e.slot with
    | none =>
      rw [List.filterMap_cons_none he] at hn ⊢
      rw [show s.discard e = s by simp [State.discard, he]]
      exact ih s hn
    | some k =>
      rw [List.filterMap_cons_some he] at hn ⊢
      obtain ⟨hk, hn⟩ := List.nodup_cons.1 hn
      rw [show s.discard e = s.release k by simp [State.discard, he]]
      obtain ⟨h1, h2, h3⟩ := ih (s.release k) hn
      refine ⟨?_, h2.trans (State.release_cells s k), fun i => ?_⟩
      · rw [h1, State.release_eq]
        rfl
      · rw [h3]
        by_cases hi : i = k
        · subst hi
          rw [if_neg hk, if_pos (by simp), State.release_eq]
          exact State.slot_setSlot_same _ _ _
        · have : (s.release k).slot i = s.slot i := by
            rw [State.release_eq]
            exact State.slot_setSlot_other _ _ _ _ hi
          simp [this, hi]

/-! ### The expiry sweep -/

/-- What a sweep does to a slot (R116). -/
theorem State.sweep_slot (s : State) (i : SlotIdx) :
    s.sweep.slot i = if (s.slot i).falls s.partTime then { s.slot i with expired := true } else s.slot i :=
  tabulate_get _ i

/-- The four conditions of a sweep in the words of R116. -/
theorem Slot.falls_iff (now : Word) (sl : Slot) :
    sl.falls now = true ↔
      (sl.state = .active ∨ sl.state = .suspect) ∧ sl.expired = false ∧
        ∃ d, sl.content.due = some d ∧ d.toNat ≤ now.toNat := by
  unfold Slot.falls dueBy
  cases hd : sl.content.due with
  | none => simp
  | some d =>
    simp only [Bool.and_eq_true, Bool.or_eq_true, beq_iff_eq, decide_eq_true_eq, Bool.not_eq_true',
      Option.some.injEq, exists_eq_left', BitVec.le_def]
    tauto

/-- What a sweep raises for a channel bound to a slot (R116). -/
theorem State.sweep_reasons_bound {s : State} {c : Channel} {i : SlotIdx} (hc : (s.entry c).binding = .bound i) :
    s.sweep.reasonsOf c =
      if (s.slot i).falls s.partTime then s.reasonsOf c ||| expiredBit else s.reasonsOf c := by
  have h := (s.boundSlot_iff c i).2 hc
  show (tabulate _).get c = _
  rw [tabulate_get]
  simp only [h]

/-- A sweep raises nothing for a channel that is not bound (R116). -/
theorem State.sweep_reasons_unbound {s : State} {c : Channel} (hc : ∀ i, (s.entry c).binding ≠ .bound i) :
    s.sweep.reasonsOf c = s.reasonsOf c := by
  have h : s.boundSlot c = none := by
    cases hb : s.boundSlot c with
    | none => rfl
    | some i => exact absurd ((s.boundSlot_iff c i).1 hb) (hc i)
  show (tabulate _).get c = _
  rw [tabulate_get]
  simp only [h]

/-! ### The arbiter -/

/-- The lowest free context is the one found (R95). -/
theorem State.freeContext_of {s : State} {k : CtxIdx} (h1 : s.context k = none)
    (h2 : ∀ j < k, s.context j ≠ none) : s.freeContext = some k := by
  simp only [State.freeContext, List.find?_eq_some_iff_getElem]
  refine ⟨by simp [h1], k.val, by simp, by simp, ?_⟩
  intro j hj
  have := h2 ⟨j, by omega⟩ (by simpa [Fin.lt_def] using hj)
  simpa [Option.isSome_iff_ne_none] using this

/-- The positions the arbiter may grant (R96). -/
theorem State.eligible_iff (s : State) (p : Fin 5) : s.eligible p = true ↔ s.mayBeGranted p := by
  unfold State.eligible State.mayBeGranted
  split
  · rename_i h
    simp only [State.laneEligible, Bool.and_eq_true, Bool.not_eq_true', List.isEmpty_eq_false_iff,
      decide_eq_true_eq]
    constructor
    · rintro ⟨a, b⟩
      exact .inl ⟨⟨p.val, h⟩, rfl, a, b⟩
    · rintro (⟨n, rfl, a, b⟩ | ⟨rfl, _⟩)
      · exact ⟨a, b⟩
      · exact absurd h (by decide)
  · rename_i h
    have hp : p = 4 := by omega
    subst hp
    unfold State.probeWaiting
    constructor
    · intro hw
      right
      split at hw
      · exact ⟨rfl, _, by assumption⟩
      · cases hw
    · rintro (⟨n, hn, _⟩ | ⟨_, q, hq⟩)
      · have := congrArg Fin.val hn
        simp at this
        omega
      · simp [hq]

/-- The arbiter selects what it may grant next (R96, R97). -/
theorem State.selected_of_grants {s : State} {p : Fin 5} {k : CtxIdx} (h : s.grants p k) :
    s.selected = some (p, k) := by
  obtain ⟨h1, h2, h3, d, hp, he, hd⟩ := h
  have hf : (searchOrder s.pointer).find? s.eligible = some p := by
    unfold searchOrder
    simp only [List.find?_eq_some_iff_getElem]
    refine ⟨(s.eligible_iff p).2 he, d.val, by simp, ?_, ?_⟩
    · rw [hp]
      clear hd hp he
      revert d
      intro d
      match d with
      | 0 => simp
      | 1 => rfl
      | 2 => rfl
      | 3 => rfl
      | 4 => rfl
    · intro j hj
      have := hd ⟨j, by omega⟩ (by simpa [Fin.lt_def] using hj)
      rw [← State.eligible_iff] at this
      have hj5 : j < 5 := by omega
      match j, hj5 with
      | 0, _ => simpa using this
      | 1, _ => simpa using this
      | 2, _ => simpa using this
      | 3, _ => simpa using this
      | 4, _ => simpa using this
  simp [State.selected, h1, State.freeContext_of h2 h3, hf]

/-! ### The store controller and the store port -/

/-- A load in progress, and none. -/
theorem State.isLoading_iff (s : State) : s.isLoading = true ↔ ∃ l, s.ctl = .loading l := by
  unfold State.isLoading
  split <;> simp_all

/-- The controller is IDLE. -/
theorem State.isIdle_iff (s : State) : s.isIdle = true ↔ s.ctl = .idle := by simp [State.isIdle]

/-- The end of a drain concerns a load only (R162). -/
theorem State.endDrain_idle {s : State} (h : s.isLoading = false) : s.endDrain = s := by
  unfold State.endDrain
  unfold State.isLoading at h
  split <;> simp_all

/-- What a drain waits for (R99, R103, R162). -/
theorem State.drained_iff (s : State) :
    s.drained = true ↔ (∀ i, (s.slot i).pins = 0) ∧ ∀ k, s.context k = none := by
  simp [State.drained, State.unpinned_iff, State.noLookups]

/-- While a slot is pinned or a lookup is in flight the drain goes on (R103, R162). -/
theorem State.endDrain_waits {s : State} (h : (∃ i, (s.slot i).pins ≠ 0) ∨ ∃ k, s.context k ≠ none) :
    s.endDrain = s := by
  have hu : s.drained = false := by
    rw [Bool.eq_false_iff, ne_eq, State.drained_iff]
    rintro ⟨h1, h2⟩
    rcases h with ⟨i, hi⟩ | ⟨k, hk⟩
    · exact hi (h1 i)
    · exact hk (h2 k)
  unfold State.endDrain
  split <;> simp [hu]

/-- A completion that leaves another lookup in flight does not end a drain, and outside a drain there is none to end
(R103, R162). -/
theorem State.endDrain_goes_on {s : State}
    (h : ∀ l, s.ctl = .loading l → l.stage = .drain → ∃ k, s.context k ≠ none) : s.endDrain = s := by
  cases hc : s.ctl with
  | loading l =>
    by_cases hl : l.stage = .drain
    · exact State.endDrain_waits (.inr (h l hc hl))
    · simp [State.endDrain, hc, hl]
  | _ => simp [State.endDrain, hc]

/-- An operation's first transfer is issued at once, or waits for the finishing write on the port (R144). -/
theorem State.issueFirst_eq (s : State) : s.issueFirst = { s with port := s.portWithFirstRead } := by
  unfold State.issueFirst State.portWithFirstRead
  cases h : s.port with
  | none => rfl
  | some t =>
    simp only
    rw [← h]

/-- The table clear with phase HEADERS begun (R163). -/
theorem State.beginHeaders_eq (s : State) : s.beginHeaders = s.cleared := by
  unfold State.beginHeaders
  rw [State.issueFirst_eq]
  rfl

/-- The drain of a load ends with its table clear (R162, R163). -/
theorem State.endDrain_clears {s : State} {l : LoadState} (hc : s.ctl = .loading l) (hl : l.stage = .drain)
    (h : ∀ i, (s.slot i).pins = 0) (hk : ∀ k, s.context k = none) : s.endDrain = s.cleared := by
  unfold State.endDrain
  rw [hc]
  simp only
  rw [if_pos ⟨hl, (s.drained_iff).2 ⟨h, hk⟩⟩, State.beginHeaders_eq]

/-- Where nothing waits or repair enable is off, no repair starts (R146). -/
theorem State.startRepair_none {s : State} (h : s.noRepairWaits) : s.startRepair = s := by
  unfold State.startRepair
  rcases h with h | h <;> split <;> simp_all

/-- While an operation is in progress no repair starts (R146). -/
theorem State.startRepair_busy {s : State} (h : s.ctl ≠ .idle) : s.startRepair = s := by
  unfold State.startRepair
  split <;> simp_all

/-- A repair that may start has started (R146, R181). -/
theorem State.startRepair_eq (s : State) : s.startRepair = s.withRepair := by
  unfold State.startRepair State.withRepair State.boundSlot
  cases s.ctl with
  | idle =>
    cases s.repairQueue with
    | nil => rfl
    | cons c rest =>
      cases hb : (s.entry c).binding with
      | bound i =>
        simp only [hb, State.issueFirst_eq]
        rfl
      | _ => simp [hb]
  | _ => rfl

/-- Where nothing waits or repair enable is off, the state stays (R146). -/
theorem State.withRepair_none {s : State} (h : s.noRepairWaits) : s.withRepair = s := by
  rw [← State.startRepair_eq, State.startRepair_none h]

/-- While an operation is in progress the state stays (R146). -/
theorem State.withRepair_busy {s : State} (h : s.ctl ≠ .idle) : s.withRepair = s := by
  rw [← State.startRepair_eq, State.startRepair_busy h]

/-- The repair that starts is that of the queue's head (R146, R181). -/
theorem State.withRepair_head {s : State} {c : Channel} {i : SlotIdx} {rest : List Channel} (hc : s.ctl = .idle)
    (hq : s.repairQueue = c :: rest) (he : s.control.repairEnable = true) (hb : (s.entry c).binding = .bound i) :
    s.withRepair =
      { s with
        repairQueue := rest, ctl := .repairing { target := c, slot := i, stage := .readA }
        port := s.portWithFirstRead } := by
  unfold State.withRepair
  rw [hc, hq]
  simp only [hb, he, if_true]

/-- A head of the queue that is not BOUND starts no repair (log entry 20). -/
theorem State.withRepair_unbound {s : State} {c : Channel} {rest : List Channel} (hq : s.repairQueue = c :: rest)
    (hb : ∀ i, (s.entry c).binding ≠ .bound i) : s.withRepair = s := by
  unfold State.withRepair
  rw [hq]
  cases s.ctl with
  | idle =>
    simp only
    cases h : (s.entry c).binding with
    | bound i => exact absurd h (hb i)
    | _ => rfl
  | _ => rfl

/-- Whatever the step timer's count: no repair starts, or that of the queue's head does (R146, R181). -/
theorem State.withRepair_cases (s : State) :
    (∀ n, State.withRepair { s with scrubCount := n } = { s with scrubCount := n }) ∨
    ∃ c i rest, s.ctl = .idle ∧ s.repairQueue = c :: rest ∧ s.control.repairEnable = true ∧
      (s.entry c).binding = .bound i ∧ ∀ n, State.withRepair { s with scrubCount := n } =
        { s with
          scrubCount := n, repairQueue := rest, ctl := .repairing { target := c, slot := i, stage := .readA }
          port := s.portWithFirstRead } := by
  by_cases hc : s.ctl = .idle
  · by_cases hq : s.repairQueue = []
    · exact .inl fun n => State.withRepair_none (.inl hq)
    · obtain ⟨c, r, hq⟩ := List.exists_cons_of_ne_nil hq
      by_cases hb : ∃ i, (s.entry c).binding = .bound i
      · obtain ⟨i, hb⟩ := hb
        by_cases he : s.control.repairEnable = true
        · exact .inr ⟨c, i, r, hc, hq, he, hb, fun n =>
            State.withRepair_head (s := { s with scrubCount := n }) hc hq he hb⟩
        · exact .inl fun n => State.withRepair_none (.inr (by simpa using he))
      · exact .inl fun n => State.withRepair_unbound (s := { s with scrubCount := n }) hq fun i h => hb ⟨i, h⟩
  · exact .inl fun n => State.withRepair_busy hc

/-- A repair's start does not touch the step timer (R174, R181). -/
@[simp] theorem State.withRepair_scrubCount (s : State) : s.withRepair.scrubCount = s.scrubCount := by
  unfold State.withRepair
  split <;> (try split) <;> (try split) <;> rfl

/-- A repair's start does not touch the settings (R181). -/
@[simp] theorem State.withRepair_control (s : State) : s.withRepair.control = s.control := by
  unfold State.withRepair
  split <;> (try split) <;> (try split) <;> rfl

/-- The step timer may be set before a repair's start or after it (R174, R181). -/
theorem State.withRepair_scrub (s : State) (n : Nat) :
    { s.withRepair with scrubCount := n } = State.withRepair { s with scrubCount := n } := by
  have e : s.withRepair = State.withRepair { s with scrubCount := s.scrubCount } := rfl
  rcases s.withRepair_cases with h | ⟨c, i, r, -, -, -, -, h⟩ <;> rw [e, h, h]

/-- A save's end (R152). -/
theorem State.endSave_eq (s : State) (o : SaveOutcome) :
    s.endSave o = State.withRepair { s with ctl := .idle, causes := s.causes ||| 0b010#3, lastSave := o } :=
  State.startRepair_eq _

/-- A load's end (R171). -/
theorem State.endLoad_eq (s : State) (o : LoadOutcome) (epoch : Word) :
    s.endLoad o epoch = State.withRepair
      { s with ctl := .idle, hold := false, epoch, causes := s.causes ||| 0b100#3, lastLoad := o } :=
  State.startRepair_eq _

/-- A repair's end (R186). -/
theorem State.endRepair_eq (s : State) (o : RepairOutcome) :
    s.endRepair o = State.withRepair { s with ctl := .idle, lastRepair := o } :=
  State.startRepair_eq _

/-- The end of an operation leaves the port as R144 gives. -/
theorem State.dropTransfer_eq (s : State) : s.dropTransfer = { s with port := s.portLeft } := by
  unfold State.dropTransfer State.portLeft
  cases hp : s.port with
  | none => simp only; rw [← hp]
  | some t =>
    cases hf : t.finishing
    · cases hk : t.kind <;> simp [hf, hk]
    · simp only [hf, if_true]
      rw [← hp]

/-- The repair that starts is that of the queue's head (R181). -/
theorem State.startRepair_head {s : State} {c : Channel} {rest : List Channel} {i : SlotIdx} (hi : s.ctl = .idle)
    (hq : s.repairQueue = c :: rest) (he : s.control.repairEnable = true) (hb : (s.entry c).binding = .bound i) :
    s.startRepair =
      { s with
        repairQueue := rest, ctl := .repairing { target := c, slot := i, stage := .readA }
        port := s.portWithFirstRead } := by
  unfold State.startRepair
  simp only [hi, hq, he, (s.boundSlot_iff c i).2 hb, State.issueFirst_eq]
  rfl

/-- The read in progress hands over its bytes (R142). -/
theorem State.readReply_of {s : State} {bytes : List Byte} (h : s.reads bytes) : s.readReply = some bytes := by
  obtain ⟨t, n, h1, h2, h3, rfl⟩ := h
  obtain ⟨a, k, f, c⟩ := t
  simp at h2 h3
  subst h2 h3
  simp [State.readReply, h1]

/-- The page write in progress completes (R142). -/
theorem State.writeDone_of {s : State} {data : List Byte} {store : List Host.Cell} (h : s.writes data store) :
    s.writeDone = some { s with store := store, port := none } := by
  obtain ⟨t, h1, h2, h3, rfl⟩ := h
  obtain ⟨a, k, f, c⟩ := t
  simp at h2 h3
  subst h2 h3
  simp [State.writeDone, h1]

/-- The bytes of that page write. -/
theorem State.writeLength_of {s : State} {data : List Byte} {store : List Host.Cell} (h : s.writes data store) :
    s.writeLength = data.length := by
  obtain ⟨t, h1, h2, h3, rfl⟩ := h
  obtain ⟨a, k, f, c⟩ := t
  simp at h2 h3
  subst h2 h3
  simp [State.writeLength, h1]

/-- The operations at their first transfer (R144). -/
theorem Controller.atFirstTransfer_iff (c : Controller) :
    c.atFirstTransfer = true ↔
      (∃ v, c = .saving v ∧ v.stage = .readA) ∨ (∃ l, c = .loading l ∧ l.stage = .readA) ∨
        ∃ r, c = .repairing r ∧ r.stage = .readA := by
  unfold Controller.atFirstTransfer
  split <;> simp_all

/-! ### The tick -/

/-- A tick that is the silence of the operation's own transfer reaches the silence timer with the millisecond counted
(R143). -/
theorem State.tick_silent {s : State} {p : Transfer} (h : s.silentTick p) (took : Bool) :
    s.tick took = (State.silence { s with msCount := s.msCount + 1 } p took).scrubTick := by
  obtain ⟨h1, h2, h3, h4, _⟩ := h
  have e2 : s.secondDue = false := by
    simp [State.secondDue]
    omega
  unfold State.tick
  rw [State.awake_running h1]
  simp only [State.timeTick, e2, Bool.false_eq_true, if_false]
  simp [State.portTick, h2, Transfer.silenceDue, Config.silenceTicks, h3]

/-- The step timer at a tick that is no step expiry (R174). -/
theorem State.scrubTick_quiet {s : State} (h : s.control.step = 0#8 ∨ s.scrubCount + 1 < s.control.step.toNat) :
    s.scrubTick = { s with scrubCount := if s.control.step = 0#8 then 0 else s.scrubCount + 1 } := by
  unfold State.scrubTick State.stepDue
  by_cases hz : s.control.step = 0#8
  · simp [hz]
  · have hn : s.scrubCount + 1 < s.control.step.toNat := h.resolve_left hz
    have : ¬ s.control.step.toNat ≤ s.scrubCount + 1 := by omega
    simp [hz, this]

/-- The step timer at such a tick, after events that touch neither it nor the settings (R174). -/
theorem State.scrubTick_after {s t : State} (h1 : t.scrubCount = s.scrubCount) (h2 : t.control = s.control)
    (h : s.control.step = 0#8 ∨ s.scrubCount + 1 < s.control.step.toNat) :
    t.scrubTick = { t with scrubCount := if s.control.step = 0#8 then 0 else s.scrubCount + 1 } := by
  rw [State.scrubTick_quiet (by rw [h1, h2]; exact h), h1, h2]

/-- The same where those events end in the start of the repair that waits (R146, R174). -/
theorem State.scrubTick_after_withRepair {s t : State} (h1 : t.scrubCount = s.scrubCount) (h2 : t.control = s.control)
    (h : s.control.step = 0#8 ∨ s.scrubCount + 1 < s.control.step.toNat) :
    t.withRepair.scrubTick =
      State.withRepair { t with scrubCount := if s.control.step = 0#8 then 0 else s.scrubCount + 1 } := by
  rw [State.scrubTick_after (by simpa using h1) (by simpa using h2) h, State.withRepair_scrub]

/-- A tick that is the silence of a read of the operation in progress: the millisecond is counted, the port is free, and
the operation is told (R143). -/
theorem State.tick_silent_read {s : State} {p : Transfer} {n : Nat} (h : s.silentTick p) (hf : p.finishing = false)
    (hk : p.kind = .read n) (took : Bool) :
    s.tick took =
      (match s.ctl with
       | .saving v => State.saveSilent { s with msCount := s.msCount + 1, port := none } v
       | .loading l => State.loadSilent { s with msCount := s.msCount + 1, port := none } l
       | .repairing r => State.repairSilent { s with msCount := s.msCount + 1, port := none } r
       | .idle => { s with msCount := s.msCount + 1, port := none }).scrubTick := by
  rw [State.tick_silent h]
  simp only [State.silence, State.afterSilence, hk, hf, Bool.false_eq_true, if_false] <;> cases s.ctl <;> rfl

/-- The next millisecond tick is the silence of the transfer in progress. -/
theorem State.silenceDue_of {s : State} {p : Transfer} (h : s.silentTick p) :
    s.silenceDue p.finishing = true := by
  obtain ⟨_, h2, h3, _⟩ := h
  simp [State.silenceDue, h2, Transfer.silenceDue, Config.silenceTicks, h3]

/-! ### The parts of a millisecond tick -/

/-- The silence timer at a tick that is no silence (R143). -/
theorem State.portTick_quiet {s : State} (h : ∀ p ∈ s.port, p.ticks < 24) (took : Bool) :
    s.portTick took = { s with port := s.port.map fun p => { p with ticks := p.ticks + 1 } } := by
  unfold State.portTick
  cases hp : s.port with
  | none => cases s; cases hp; rfl
  | some t =>
    have : t.silenceDue = false := by
      have := h t (by simp [hp])
      simp [Transfer.silenceDue, Config.silenceTicks]
      omega
    simp [this]

/-- The seconds tick that brings the count to the lease in force (R65). -/
theorem State.leaseTick_lapse {s : State} {l : Byte} {k : Nat} (h : s.lease = .counting l k) (hk : k + 1 = l.toNat) :
    s.leaseTick = s.emptyEdits.latch leaseLapsedBit := by
  simp [State.leaseTick, h, hk]

/-- The lease timer at every other seconds tick (R65). -/
theorem State.leaseTick_counts {s : State} (h : ∀ l k, s.lease = .counting l k → k + 1 ≠ l.toNat) :
    ∃ l, s.leaseTick = { s with lease := l } ∧ (∀ l' k, s.lease = .counting l' k → l = .counting l' (k + 1)) ∧
      ((∀ l' k, s.lease ≠ .counting l' k) → l = s.lease) := by
  unfold State.leaseTick
  split
  · rename_i l k hl
    rw [if_neg (h l k hl)]
    exact ⟨_, rfl, by simp_all, by simp_all⟩
  · rename_i hl
    exact ⟨s.lease, rfl, by simp_all, fun _ => rfl⟩
  · rename_i hl
    exact ⟨s.lease, rfl, by simp_all, fun _ => rfl⟩

/-- The step timer at a step expiry (R174). -/
theorem State.scrubTick_step {s : State} (hz : s.control.step ≠ 0#8) (h : s.scrubCount + 1 = s.control.step.toNat) :
    s.scrubTick = State.scrubCheck { s with scrubCount := 0 } := by
  have : s.stepDue = true := by simp [State.stepDue, hz, h]
  simp [State.scrubTick, hz, this]

/-- A scrub check without an ACTIVE slot (R175). -/
theorem State.scrubCheck_none {s : State} (h : ∀ i, (s.slot i).state ≠ .active) : s.scrubCheck = s := by
  unfold State.scrubCheck
  rw [List.find?_eq_none.2 fun i _ => by simpa using h i]

/-- A scrub check of the first ACTIVE slot from the position (R175, R176). -/
theorem State.scrubCheck_first {s : State} {d : Fin 128} (ha : (s.slot (s.scrubPos + d)).state = .active)
    (hb : ∀ e < d, (s.slot (s.scrubPos + e)).state ≠ .active) :
    (contentCrc (s.slot (s.scrubPos + d)).content = (s.slot (s.scrubPos + d)).content.crc →
      s.scrubCheck = { s with scrubPos := s.scrubPos + d + 1 }) ∧
    (contentCrc (s.slot (s.scrubPos + d)).content ≠ (s.slot (s.scrubPos + d)).content.crc →
      s.scrubCheck = (State.mismatch { s with scrubPos := s.scrubPos + d + 1 } (s.scrubPos + d)).startRepair) := by
  have hf : (scrubOrder s.scrubPos).find? (fun i => (s.slot i).state == .active) = some (s.scrubPos + d) := by
    unfold scrubOrder
    rw [List.find?_eq_some_iff_getElem]
    refine ⟨by simpa using ha, d.val, by simp, by simp, fun j hj => ?_⟩
    simpa using hb ⟨j, by omega⟩ (Fin.lt_def.2 hj)
  unfold State.scrubCheck
  rw [hf]
  exact ⟨fun hc => if_pos ((contentSound_iff _).2 hc), fun hc => if_neg fun e => hc ((contentSound_iff _).1 e)⟩

end Sys2Proof.Machine
end

