-- ==== Sys2Proof/Tests/Slice0.lean ====
section
/-! SUPPORT. The tests: what the manual's worked examples, tables and layouts give for single events; ill-formed terms;
and, for each statement with hypotheses, a state and operands that meet them (`witness_…`). -/

namespace Sys2Proof.Tests

open Sys2Proof Sys2Proof.Machine

-- One theorem after another: side by side, their kernel evaluations would each ask for a thread of their own.
set_option Elab.async false

/-! ### A bench -/

/-- The state an event leaves. -/
def after (i : Instr) (s : State) : State :=
  match exec i s with
  | .next t => t
  | .fault _ => s
  | .refused _ => s

/-- The state a few events leave. -/
def afterAll (is : List Instr) (s : State) : State := is.foldl (fun s i => after i s) s

/-- Out of reset, the table empty, the controller IDLE. -/
def empty : State := { State.reset with held := false, hold := false, ctl := .idle }

/-- A content with its own CRC. -/
def sealed (c : Content) : Content := { c with crc := contentCrc c }

/-- The record of the worked example of section 2.5. -/
def u16Record : Content :=
  { blankContent with
    channel := 40, revision := 7#16
    points := [{ x := 0x03E8#16, y := BitVec.ofInt 24 (-50000) }, { x := 0x1F40#16, y := 0#24 },
      { x := 0x4E20#16, y := 60000#24 }, { x := 0x9C40#16, y := 100000#24 }, { x := 0xEA60#16, y := 95000#24 }]
    limits := some { low := BitVec.ofInt 24 (-40000), high := 98000#24 } }

/-- The record of the worked example of section 2.6. -/
def s16Record : Content :=
  { blankContent with
    channel := 41, revision := 0xFFFF#16, format := .s16, endMode := .extend
    points := [{ x := 0xADF8#16, y := 8000000#24 }, { x := 0#16, y := 0#24 },
      { x := 0x1B58#16, y := BitVec.ofInt 24 (-2000000) }] }

/-- A short record with a due time. -/
def dueRecord : Content :=
  { blankContent with
    channel := 42, revision := 2#16, action := .block
    points := [{ x := 1#16, y := 5#24 }, { x := 2#16, y := 9#24 }], due := some 1000#32 }

/-- Channel 40 in slot 0, channel 41 in slot 1, channel 42 in slot 2, channel 43 LOST with revision 5. -/
def bench : State :=
  { ((((((empty.setSlot 0 { state := .active, pins := 0, expired := false, content := sealed u16Record }).setSlot 1
      { state := .active, pins := 0, expired := false, content := sealed s16Record }).setSlot 2
      { state := .active, pins := 0, expired := false, content := sealed dueRecord }).setEntry 40
      { binding := .bound 0, revision := 7#16 }).setEntry 41 { binding := .bound 1, revision := 0xFFFF#16 }).setEntry 42
      { binding := .bound 2, revision := 2#16 }).setEntry 43 { binding := .lost, revision := 5#16 } with
    freeCells := 2038 }

/-- The bench with channel 42's record damaged and queued for repair. -/
def damaged : State :=
  { (bench.setSlot 2 { state := .suspect, pins := 0, expired := false, content := sealed dueRecord }).setReasons 42
      0b00100#5 with repairQueue := [42], control := { Control.default with repairEnable := false } }

/-- The bench with an edit open: channel 9 CREATE with slot 3. -/
def editing : State := after (.openEdit 9 0x00#8) bench

/-! ### Layouts (chapter 12): frames and words written out byte by byte -/

/-- R203 gives this check value. -/
theorem test_crc_check_value :
    deviceCrc [0x31#8, 0x32#8, 0x33#8, 0x34#8, 0x35#8, 0x36#8, 0x37#8, 0x38#8, 0x39#8] = 0xAEE7#16 := by
  decide +kernel

/-- Read Identity: code 73h, length 0 (section 12.2). -/
theorem test_frame_readIdentity : checkFrame [0x73#8, 0x00#8, 0xAA#8, 0x0B#8] = .good .readIdentity [] := by
  decide +kernel

/-- Open Edit: code 10h, channel 5, kind REPLACE_EMPTY. -/
theorem test_frame_openEdit :
    checkFrame [0x10#8, 0x02#8, 0x05#8, 0x02#8, 0x5E#8, 0x06#8] = .good .openEdit [0x05#8, 0x02#8] ∧
      decodePayload .openEdit [0x05#8, 0x02#8] = some (.openEdit 5 2#8) := by decide +kernel

/-- Put Points: channel 7, start 1, 2 points of 5 bytes each, high byte first. -/
theorem test_frame_putPoints :
    decodePayload .putPoints [0x07#8, 0x01#8, 0x02#8, 0x80#8, 0x00#8, 0xFF#8, 0xFF#8, 0xFE#8, 0x12#8, 0x34#8, 0x00#8,
      0x01#8, 0x02#8] =
    some (.putPoints 7 1#8 [{ x := 0x8000#16, y := 0xFFFFFE#24 }, { x := 0x1234#16, y := 0x000102#24 }]) := by
  decide +kernel

/-- Set Time: code 40h, 3600 in four bytes. -/
theorem test_frame_setTime :
    checkFrame [0x40#8, 0x04#8, 0x00#8, 0x00#8, 0x0E#8, 0x10#8, 0x25#8, 0x1C#8] =
        .good .setTime [0x00#8, 0x00#8, 0x0E#8, 0x10#8] ∧
      decodePayload .setTime [0x00#8, 0x00#8, 0x0E#8, 0x10#8] = some (.setTime 3600#32) := by decide +kernel

/-- Probe: channel 9, raw code 1234h, STAGED; the same frame with one CRC byte wrong. -/
theorem test_frame_probe :
    checkFrame [0x20#8, 0x04#8, 0x09#8, 0x12#8, 0x34#8, 0x01#8, 0x0C#8, 0x74#8] =
        .good .probe [0x09#8, 0x12#8, 0x34#8, 0x01#8] ∧
      decodePayload .probe [0x09#8, 0x12#8, 0x34#8, 0x01#8] = some (.probe 9 0x1234#16 1#8) ∧
      checkFrame [0x20#8, 0x04#8, 0x09#8, 0x12#8, 0x34#8, 0x01#8, 0x0C#8, 0x75#8] = .bad (some 0x20#8) .frameCrc := by
  decide +kernel

/-- Clear Reasons: code 51h; Reload: code 62h; Restart: code 7Fh; a Restart frame cut short. -/
theorem test_frame_codes :
    checkFrame [0x51#8, 0x02#8, 0xC8#8, 0x15#8, 0xE4#8, 0x66#8] = .good .clearReasons [0xC8#8, 0x15#8] ∧
      checkFrame [0x62#8, 0x00#8, 0xCC#8, 0x0B#8] = .good .reload [] ∧
      checkFrame [0x7F#8, 0x00#8, 0x82#8, 0x0B#8] = .good .restart [] ∧
      checkFrame [0x7F#8, 0x00#8, 0x82#8] = .bad (some 0x7F#8) .frameLength := by decide +kernel

/-- R205: the request word 28 03E8 11 is channel 40, raw code 03E8h, tag 11h. -/
theorem test_request_word :
    requestOfWord 0x2803E811#32 = { channel := 40, raw := 0x03E8#16, tag := 0x11#8 } := by decide +kernel

/-- R205: tag 11h, channel 40, revision 7, value -50000 (FF3CB0h), CLAMPED and LOW, value present. -/
theorem test_result_word :
    resultWord { tag := 0x11#8, channel := 40, present := true, value := BitVec.ofInt 24 (-50000)
                 flags := { clamped := true, saturated := false, low := true, high := false, expired := false }
                 reason := .none, revision := 7#16 } = 0x11280007FF3CB00580#72 := by decide +kernel

/-! ### WellFormed: each check refuses an ill-formed term -/

/-- A page write cut by a reset leaves at most a page. -/
theorem test_wf_torn : (Instr.powerOnReset (List.replicate 65 0#8)).wf = false ∧
    (Instr.pinReset (List.replicate 65 0#8)).wf = false := by decide

/-- Without a code byte the frame's length is what fails (R189). -/
theorem test_wf_frameError : (Instr.frameError none .frameCrc).wf = false := by decide

/-- A transaction that begins with C3h or 3Ch is not ignored (R188). -/
theorem test_wf_ignored : (Instr.ignoredTransaction [0xC3#8]).wf = false ∧
    (Instr.ignoredTransaction [0x3C#8, 0#8]).wf = false := by decide

/-- A payload holds at most 64 bytes (R189): a label of 63 characters, a list of 13 points. -/
theorem test_wf_payload : (Instr.setLabel 0 (List.replicate 63 0x41#8)).wf = false ∧
    (Instr.putPoints 0 0#8 (List.replicate 13 { x := 0#16, y := 0#24 })).wf = false := by decide

/-- A content field holds one of its stated values (R4): a due time of 0, a label of 16 characters, an unprintable
character. -/
theorem test_wf_upset : (Instr.upset 0 { blankContent with due := some 0#32 }).wf = false ∧
    (Instr.upset 0 { blankContent with label := List.replicate 16 0x41#8 }).wf = false ∧
    (Instr.upset 0 { blankContent with label := [0x7F#8] }).wf = false ∧
    (Instr.upset 0 { blankContent with points := List.replicate 33 { x := 0#16, y := 0#24 } }).wf = false := by decide

/-! ### Correction arithmetic: the tables of sections 2.5 and 2.6 -/

/-- Section 2.5: raw codes 0000h, 1388h, C351h and FFFFh. -/
theorem test_u16_values :
    (correct u16Record 0x0000#16).1.toInt = -50000 ∧ (correct u16Record 0x1388#16).1.toInt = -21429 ∧
      (correct u16Record 0xC351#16).1.toInt = 97500 ∧ (correct u16Record 0xFFFF#16).1.toInt = 95000 := by
  decide +kernel

/-- Section 2.5: CLAMPED with LOW, LOW alone, HIGH alone. -/
theorem test_u16_flags :
    (correct u16Record 0x0000#16).2 =
        { clamped := true, saturated := false, low := true, high := false, expired := false } ∧
      (correct u16Record 0x03E8#16).2 = { Flags.clear with low := true } ∧
      (correct u16Record 0x9C3F#16).2 = { Flags.clear with high := true } := by decide +kernel

/-- Section 2.6: raw codes 8000h, AD00h, 0001h, 4E20h and 7FFFh. -/
theorem test_s16_values :
    (correct s16Record 0x8000#16).1.toInt = 8388607 ∧ (correct s16Record 0xAD00#16).1.toInt = 8094476 ∧
      (correct s16Record 0x0001#16).1.toInt = -285 ∧ (correct s16Record 0x4E20#16).1.toInt = -5714285 ∧
      (correct s16Record 0x7FFF#16).1.toInt = -8388608 := by decide +kernel

/-- Section 2.6: SATURATED at both ends, no flag for an extended value in range. -/
theorem test_s16_flags :
    (correct s16Record 0x8000#16).2 = { Flags.clear with saturated := true } ∧
      (correct s16Record 0xAD00#16).2 = Flags.clear := by decide +kernel

/-! ### Resets, Restart and the port -/

/-- R24: the map entry of channel 40 is UNASSIGNED again and all cells are free. -/
theorem test_powerOnReset : (after (.powerOnReset []) bench).entry 40 = { binding := .unassigned, revision := 0#16 } ∧
    (after (.powerOnReset []) bench).freeCells = 2048 := by decide +kernel

/-- R137, R153: a cut page write touches only its own addresses. -/
theorem test_pinReset :
    Mem.read (after (.pinReset [1#8, 2#8])
      { bench with
        port := some { address := 64, kind := .write [9#8, 9#8], finishing := false, ticks := 0 }
        store := [(66, 7#8)] }).store 66 = 7#8 := by decide +kernel

/-- R160: at the end of the reset the read of area A's header, 64 bytes at address 0, is issued. -/
theorem test_bootLoad : (after (.bootLoad true) State.reset).port =
    some { address := 0, kind := .read 64, finishing := false, ticks := 0 } ∧
    (after (.bootLoad true) State.reset).receiver = .awaitHigh := by decide +kernel

/-- R202: after the rise the receiver can begin a transaction. -/
theorem test_chipSelectRise :
    (after .chipSelectRiseAfterReset { empty with receiver := .awaitHigh }).receiver = .idle := by decide +kernel

/-- The frame of Set Time(3600) sets part time and counts one taken frame. -/
theorem test_commandWrite :
    (after (.commandWrite [0x40#8, 0x04#8, 0x00#8, 0x00#8, 0x0E#8, 0x10#8, 0x25#8, 0x1C#8]) empty).partTime =
        3600#32 ∧
      (after (.commandWrite [0x40#8, 0x04#8, 0x00#8, 0x00#8, 0x0E#8, 0x10#8, 0x25#8, 0x1C#8]) empty).counter = 1#8 := by
  decide +kernel

/-- R191: a Read Map Entry frame with an empty payload is counted and refused with BAD_PARAM; its bytes are 30 00 and
the CRC. -/
theorem test_commandWrite_wrong_length :
    (after (.commandWrite (frameOf .readMapEntry [])) empty).response =
      { status := .badParam, echo := 0x30#8, counter := 1#8, refused := false, payload := [] } := by decide +kernel

/-- Section 11.7 step 1: FRAME_CRC with the counter at 40 and the code echoed. -/
theorem test_frameError : (after (.frameError (some 0x72#8) .frameCrc) { empty with counter := 40#8 }).response =
    { status := .frameCrc, echo := 0x72#8, counter := 40#8, refused := false, payload := [] } := by decide +kernel

/-- Section 11.7 step 6: while a probe is pending the buffer is kept and REFUSED_FRAME set. -/
theorem test_frameError_pending :
    (after (.frameError (some 0x40#8) .frameLength) (after (.probe 40 0x1000#16 0#8) bench)).response =
      { status := .pending, echo := 0x20#8, counter := 1#8, refused := true, payload := [] } := by decide +kernel

/-- R193: five zero bytes, their CRC 2400h, then 00h. -/
theorem test_responseRead : (after (.responseRead 8) empty).sdo =
    [0#8, 0#8, 0#8, 0#8, 0#8, 0x24#8, 0x00#8, 0#8] := by decide +kernel

/-- R188: FFh for every byte. -/
theorem test_ignoredTransaction : (after (.ignoredTransaction [0x00#8, 0xC3#8]) empty).sdo = [0xFF#8, 0xFF#8] := by
  decide +kernel

/-- R25, R201: the table stays, the edit set goes and its slot is FREE again. -/
theorem test_restart : (after .restart editing).edits = [] ∧ (after .restart editing).slot 3 = Slot.blank ∧
    (after .restart editing).entry 41 = { binding := .bound 1, revision := 0xFFFF#16 } := by decide +kernel

/-! ### Editing and Commit -/

/-- R54: REPLACE_COPY of channel 41 takes slot 3 and three cells. -/
theorem test_openEdit : ((after (.openEdit 41 0x01#8) bench).slot 3).state = .staged ∧
    (after (.openEdit 41 0x01#8) bench).freeCells = 2035 ∧
    (after (.openEdit 41 0x01#8) bench).response.payload = [0#8, 3#8] := by decide +kernel

/-- Section 3.7 step 4: RETIRE of an UNASSIGNED channel is WRONG_STATE. -/
theorem test_openEdit_wrong_state : (after (.openEdit 11 0x03#8) bench).response.status = .wrongState := by
  decide +kernel

/-- R57: a due time with its mark absent is not stored. -/
theorem test_setFields :
    ((after (.setFields 9 { format := 1#8, endMode := 1#8, action := 1#8, limitsPresent := 0#8, low := 5#24
                            high := 1#24, duePresent := 0#8, due := 77#32 }) editing).slot 3).content.due = none ∧
    ((after (.setFields 9 { format := 1#8, endMode := 1#8, action := 1#8, limitsPresent := 0#8, low := 5#24
                            high := 1#24, duePresent := 0#8, due := 77#32 }) editing).slot 3).content.format = .s16 := by
  decide +kernel

/-- R58: a label of 15 characters is stored, one of 16 refused. -/
theorem test_setLabel :
    ((after (.setLabel 9 (List.replicate 15 0x41#8)) editing).slot 3).content.label = List.replicate 15 0x41#8 ∧
    (after (.setLabel 9 (List.replicate 16 0x41#8)) editing).response.status = .badParam := by decide +kernel

/-- Section 3.7 step 7: a start beyond the list's count is BAD_PARAM; step 8 takes one cell for each point. -/
theorem test_putPoints : (after (.putPoints 9 2#8 [{ x := 1#16, y := 1#24 }]) editing).response.status = .badParam ∧
    (after (.putPoints 9 0#8 (List.replicate 12 { x := 1#16, y := 1#24 })) editing).freeCells = 2026 := by
  decide +kernel

/-- R60: trimming 3 points to 1 returns two cells. -/
theorem test_trimPoints : (after (.trimPoints 41 1#8) (after (.openEdit 41 0x01#8) bench)).freeCells = 2037 := by
  decide +kernel

/-- R61: the slot and its cells return, the set is EMPTY and the timer STOPPED. -/
theorem test_dropEdit : (after (.dropEdit 41) (after (.openEdit 41 0x01#8) bench)).freeCells = 2038 ∧
    (after (.dropEdit 41) (after (.openEdit 41 0x01#8) bench)).lease = .stopped := by decide +kernel

/-- R62: NO_EDIT with the set EMPTY; otherwise every slot returns. -/
theorem test_abandon : (after .abandon bench).response.status = .noEdit ∧
    (after .abandon editing).slot 3 = Slot.blank := by decide +kernel

/-- Section 4.6: revision 65535 is followed by 1; the slot replaced enters FREE and its cells return. -/
theorem test_commit : (after .commit (after (.openEdit 41 0x01#8) bench)).entry 41 =
      { binding := .bound 3, revision := 1#16 } ∧
    (after .commit (after (.openEdit 41 0x01#8) bench)).slot 1 = Slot.blank ∧
    (after .commit (after (.openEdit 41 0x01#8) bench)).freeCells = 2038 := by decide +kernel

/-- Section 3.7's end: an empty list is rejected at its index with POINTS (code 00h). -/
theorem test_commit_rejected : (after .commit editing).response =
    { status := .rejected, echo := 0x16#8, counter := 2#8, refused := false, payload := [0#8, 0#8] } := by
  decide +kernel

/-- R68, R204: one entry, COUNTING 30 s at count 0; index 0, channel 9, CREATE, slot 3, no points. -/
theorem test_readEditSet : (after (.readEditSet 0#8) editing).response.payload =
    [1#8, 2#8, 30#8, 0#8, 0#8, 9#8, 0#8, 3#8, 0#8] := by decide +kernel

/-! ### Inspection, attention, control -/

/-- R26: BOUND 01h, slot 0, revision 7; LOST 02h, slot 0, revision 5. -/
theorem test_readMapEntry : (after (.readMapEntry 40) bench).response.payload = [1#8, 0#8, 0#8, 7#8] ∧
    (after (.readMapEntry 43) bench).response.payload = [2#8, 0#8, 0#8, 5#8] := by decide +kernel

/-- R27: slot 2, ACTIVE 02h, revision 2, U16, CLAMP, BLOCK, no limits; 40 bytes in all. -/
theorem test_readRecord : (after (.readRecord 42 0#8) bench).response.payload.take 14 =
      [2#8, 2#8, 0#8, 2#8, 0#8, 0#8, 1#8, 0#8, 0#8, 0#8, 0#8, 0#8, 0#8, 0#8] ∧
    (after (.readRecord 42 0#8) bench).response.payload.length = 40 := by decide +kernel

/-- R28: the second point of channel 42; a count beyond the list is BAD_PARAM. -/
theorem test_readPoints : (after (.readPoints 42 0#8 1#8 1#8) bench).response.payload =
      [0#8, 2#8, 0#8, 0#8, 9#8] ∧
    (after (.readPoints 42 0#8 1#8 2#8) bench).response.status = .badParam := by decide +kernel

/-- Section 6.5 step 1: the slot whose due time is reached is flagged and counted. -/
theorem test_setTime : (after (.setTime 4999#32) bench).response.payload =
      [0#8, 0#8, 0#8, 0#8, 0#8, 0#8, 0x13#8, 0x87#8, 1#8] ∧
    ((after (.setTime 4999#32) bench).slot 2).expired = true ∧
    (after (.setTime 4999#32) bench).reasonsOf 42 = 0b00001#5 := by decide +kernel

/-- Section 7.5 step 2: channel 17 with SUSPECT and EXPIRED, three members, SAVE_END, ATTN asserted. -/
theorem test_readAttention :
    (after (.readAttention 4)
      { ((empty.setReasons 3 0b00010#5).setReasons 17 0b00101#5).setReasons 200 0b10000#5 with
        causes := 0b010#3 }).response.payload = [2#8, 0#8, 3#8, 1#8, 1#8, 17#8, 5#8] := by decide +kernel

/-- Section 7.5 step 6: SUSPECT leaves channel 17's set and EXPIRED stays. -/
theorem test_clearReasons : (after (.clearReasons 17 0b00100#8) (empty.setReasons 17 0b00101#5)).reasonsOf 17 =
      0b00001#5 ∧
    (after (.clearReasons 17 0b00100#8) (empty.setReasons 17 0b00101#5)).response.payload = [17#8, 1#8] := by
  decide +kernel

/-- R136: SAVE_END is cleared and LOAD_END kept. -/
theorem test_clearCauses : (after (.clearCauses 0b010#8) { empty with causes := 0b110#3 }).causes = 0b100#3 := by
  decide +kernel

/-- R195: only the selected lease is written; a threshold of 9 is refused. -/
theorem test_setControl :
    let v : ControlBytes := { lease := 5#8, step := 7#8, repairEnable := 0#8, laneEnable := Vector.replicate 4 0#8
                              threshold := Vector.replicate 4 9#8, reasonMask := 0#8, causeMask := 0#8 }
    (after (.setControl 0x0001#16 v) empty).control = { Control.default with lease := 5#8 } ∧
      (after (.setControl 0x0080#16 v) empty).response.status = .badParam := by decide +kernel

/-- R195: the defaults in the order of R197. -/
theorem test_readControl : (after .readControl empty).response.payload =
    [30#8, 20#8, 1#8, 1#8, 1#8, 1#8, 1#8, 1#8, 1#8, 1#8, 1#8, 0x1F#8, 7#8] := by decide +kernel

/-- R198: 125 free slots and 2038 free cells, and the counter reads 0 afterwards. -/
theorem test_readStatus : ((after .readStatus { bench with mismatches := 3 }).response.payload.drop 4).take 3 =
      [125#8, 0x07#8, 0xF6#8] ∧
    (after .readStatus { bench with mismatches := 3 }).mismatches = 0 := by decide +kernel

/-- R200: vendor 5456h, part 0128h, silicon revision 1 in the two bytes that R204 gives revisions; 13 bytes in all. -/
theorem test_readIdentity : (after .readIdentity empty).response.payload.take 6 =
      [0x54#8, 0x56#8, 0x01#8, 0x28#8, 0x00#8, 0x01#8] ∧
    (after .readIdentity empty).response.payload.length = 13 := by decide +kernel

/-! ### Lanes, lookups, probes -/

/-- R90: the request stands at the tail of its lane's queue; a withdrawn ready takes nothing. -/
theorem test_requestArrival : (after (.requestArrival 0 0x2803E811#32) bench).lane 0 =
      { requests := [{ channel := 40, raw := 0x03E8#16, tag := 0x11#8 }], results := [], inFlight := 0 } ∧
    ((after (.requestArrival 0 0#32)
      { bench with control := { Control.default with laneEnable := Vector.replicate 4 false } }).lane 0).requests = [] := by
  decide +kernel

/-- A lane-0 request for channel 40, raw code 0000h, granted to context 0. -/
def inFlight : State := afterAll [.requestArrival 0 0x28000011#32, .laneGrant] bench

/-- Section 5.6 step 1: the grant moves the pointer to lane 1 and pins the slot. -/
theorem test_laneGrant : inFlight.pointer = 1 ∧ (inFlight.slot 0).pins = 1 ∧ (inFlight.lane 0).inFlight = 1 := by
  decide +kernel

/-- Section 2.5, first row, on a lane: value -50000 with LOW raises LIMIT; the slot is unpinned. -/
theorem test_laneCompletion :
    ((after (.laneCompletion 0) inFlight).lane 0).results.map (fun r => r.value.toInt) = [-50000] ∧
    (after (.laneCompletion 0) inFlight).reasonsOf 40 = 0b00010#5 ∧
    ((after (.laneCompletion 0) inFlight).slot 0).pins = 0 := by decide +kernel

/-- R92: the take removes the head. -/
theorem test_resultTake : ((after (.resultTake 0) (after (.laneCompletion 0) inFlight)).lane 0).results = [] := by
  decide +kernel

/-- R105, R106: a probe of channel 40 waits; a selector of 2 is BAD_PARAM. -/
theorem test_probe : (after (.probe 40 0#16 0#8) bench).probe =
      .waiting { channel := 40, raw := 0#16, which := .active, staged := none } ∧
    (after (.probe 40 0#16 2#8) bench).response.status = .badParam := by decide +kernel

/-- Section 5.6 step 4: the grant of the probe moves the pointer to lane 0; the response stays PENDING. -/
theorem test_probeGrant : (afterAll [.probe 40 0#16 0#8, .probeGrant] bench).probe = .inFlight ∧
    (afterAll [.probe 40 0#16 0#8, .probeGrant] bench).response.status = .pending := by decide +kernel

/-- R107, R46: a probe result has tag 0 and raises no LIMIT reason. -/
theorem test_probeCompletion : (afterAll [.probe 40 0#16 0#8, .probeGrant, .probeCompletion 0] bench).response.payload =
      [0#8, 40#8, 0#8, 7#8, 0xFF#8, 0x3C#8, 0xB0#8, 0x05#8, 0x80#8] ∧
    (afterAll [.probe 40 0#16 0#8, .probeGrant, .probeCompletion 0] bench).reasonsOf 40 = 0#5 := by decide +kernel

/-! ### Time, the scrub, upsets -/

/-- R112: the millisecond count and the step timer advance. -/
theorem test_millisecondTick : (after (.millisecondTick false) bench).msCount = 1 ∧
    (after (.millisecondTick false) bench).scrubCount = 1 := by decide +kernel

/-- Section 6.5 step 2: the tick that reaches the due time flags the slot. -/
theorem test_secondsTick :
    ((after (.secondsTick false) { bench with msCount := 999, partTime := 999#32 }).slot 2).expired = true ∧
    (after (.secondsTick false) { bench with msCount := 999, partTime := 999#32 }).partTime = 1000#32 := by
  decide +kernel

/-- R65: the 30th second of a lease of 30 discards the set and latches LEASE_LAPSED. -/
theorem test_leaseLapse :
    (after (.leaseLapse false) { editing with msCount := 999, lease := .counting 30#8 29 }).edits = [] ∧
    (after (.leaseLapse false) { editing with msCount := 999, lease := .counting 30#8 29 }).causes = 0b001#3 := by
  decide +kernel

/-- R175, R176: the step finds the altered content of slot 2 and moves past it. -/
theorem test_stepExpiry :
    let s := { (bench.setSlot 2 { state := .active, pins := 0, expired := false, content := dueRecord }) with
               scrubPos := 2, scrubCount := 19, control := { Control.default with repairEnable := false } }
    ((after (.stepExpiry false) s).slot 2).state = .suspect ∧ (after (.stepExpiry false) s).repairQueue = [42] ∧
      (after (.stepExpiry false) s).scrubPos = 3 := by decide +kernel

/-- R19: the content of an upset slot changes; a FREE slot has none to change. -/
theorem test_upset : ((after (.upset 2 { dueRecord with revision := 9#16 }) bench).slot 2).content.revision = 9#16 ∧
    (after (.upset 9 blankContent) bench).slot 9 = Slot.blank := by decide +kernel

/-! ### Saving, loading, repair -/

/-- The bench with an operation in progress and this transfer of it on the port. -/
def working (c : Controller) (address : Nat) (kind : TransferKind) (store : Mem) : State :=
  { bench with ctl := c, port := some { address, kind, finishing := false, ticks := 0 }, store }

/-- A save at this stage, its epoch 0, nothing written. -/
def savingAt (st : SaveStage) : SaveState :=
  { stage := st, epoch := 0#32, last := none, rest := [], done := 0, written := [] }

/-- The target of the tests: area A, generation 1. -/
def targetA : Target := { area := .a, generation := 1#32 }

/-- R147: ACCEPTED with the first header read issued; SUSPECT_PRESENT with a SUSPECT slot. -/
theorem test_save : (after .save bench).port = some { address := 0, kind := .read 64, finishing := false, ticks := 0 } ∧
    (after .save bench).response.status = .accepted ∧ (after .save damaged).response.status = .suspectPresent := by
  decide +kernel

/-- R154: the page write on the port goes on as a finishing write. -/
theorem test_stopSave :
    ((after .stopSave (working (.saving (savingAt (.body targetA))) 64 (.write [1#8]) [])).port.map
      Transfer.finishing) = some true ∧
    (after .stopSave (working (.saving (savingAt (.body targetA))) 64 (.write [1#8]) [])).lastSave =
      .stopped .body (some .a) 0 := by decide +kernel

/-- R148: neither area valid, so the target is A and its marker is overwritten with zero bytes. -/
theorem test_saveHeaderRead :
    (after .saveHeaderReadCompletion (working (.saving (savingAt (.readB none))) 32768 (.read 64) [])).port =
      some { address := 0, kind := .write [0#8, 0#8, 0#8, 0#8], finishing := false, ticks := 0 } := by decide +kernel

/-- R149: the first page, 64 bytes at address 64: channel 40's image of 43 bytes and 21 of channel 41's. -/
theorem test_invalidateWrite :
    ((after .invalidateWriteCompletion
      (working (.saving (savingAt (.invalidate targetA))) 0 (.write [0#8, 0#8, 0#8, 0#8]) [])).port.map fun t =>
        (t.address, match t.kind with
                    | .write d => (d.length, d.getD 0 0#8, d.getD 43 0#8)
                    | .read _ => (0, 0#8, 0#8))) = some (64, 64, 40#8, 41#8) := by decide +kernel

/-- R149, R151: after the last page the header is written with a zero marker. -/
theorem test_bodyWrite :
    ((after .bodyWriteCompletion
      (working (.saving { savingAt (.body targetA) with last := some 42, written := [40, 41, 42], done := 64 }) 128
        (.write [1#8, 2#8]) [])).port.map fun t =>
        (t.address, match t.kind with
                    | .write d => (d.length, d.take 4)
                    | .read _ => (0, []))) = some (0, 64, [0#8, 0#8, 0#8, 0#8]) := by decide +kernel

/-- R151: the marker "VRGI" is written alone. -/
theorem test_headerWrite :
    (after .headerWriteCompletion (working (.saving (savingAt (.header targetA))) 0 (.write [7#8]) [])).port =
      some { address := 0, kind := .write [0x56#8, 0x52#8, 0x47#8, 0x49#8], finishing := false, ticks := 0 } := by
  decide +kernel

/-- R152: DONE_A, with SAVE_END latched. -/
theorem test_markerWrite :
    (after .markerWriteCompletion
      (working (.saving { savingAt (.marker targetA) with written := [40], done := 43 }) 0
        (.write [0x56#8, 0x52#8, 0x47#8, 0x49#8]) [])).lastSave = .done .a 1#32 0#32 1 43 := by decide +kernel

/-- R143, R152: the 25th tick of a transfer ends the save FAILED_STORE. -/
theorem test_saveSilence :
    (after (.saveStoreSilence false)
      { working (.saving (savingAt .readA)) 0 (.read 64) [] with
        port := some { address := 0, kind := .read 64, finishing := false, ticks := 24 } }).lastSave =
      .failedStore .invalidate none 0 := by decide +kernel

/-- R144: the finishing write's bytes are in the store and the port is free. -/
theorem test_finishingWrite :
    (after .finishingWriteCompletion
      { bench with port := some { address := 64, kind := .write [5#8], finishing := true, ticks := 3 } }).store =
        [(64, 5#8)] ∧
    (after (.finishingWriteSilence false)
      { bench with port := some { address := 64, kind := .write [5#8], finishing := true, ticks := 24 } }).port = none := by
  decide +kernel

/-- R144: an operation that waits has its first transfer issued once the port is free. -/
theorem test_deferredTransfer :
    (after .deferredTransferIssue { bench with ctl := .saving (savingAt .readA) }).port =
      some { address := 0, kind := .read 64, finishing := false, ticks := 0 } := by decide +kernel

/-- R161, R162: with a slot pinned the load drains; section 9.9 step 3: the completion of the last lookup clears the
table. -/
theorem test_reload : (after .reload inFlight).ctl = .loading { stage := .drain, installed := 0, lost := 0 } ∧
    (after .reload inFlight).hold = true ∧
    (afterAll [.reload, .laneCompletion 0] inFlight).entry 40 = MapEntry.blank := by decide +kernel

/-- R163: the clear, and the read of area A's header. -/
theorem test_tableClear :
    (after .tableClear { bench with hold := true, ctl := .loading { stage := .drain, installed := 0, lost := 0 } }).ctl =
      .loading { stage := .readA, installed := 0, lost := 0 } := by decide +kernel

/-- The header of a small image: channel 4 alone, generation 7, epoch 861, body length 28. -/
def smallHeader : Header := { generation := 7#32, epoch := 861#32, count := 1, bodyLength := 28, presence := [4] }

/-- The walk at the image's first record. -/
def smallWalk : Walk := { area := .b, header := smallHeader, expected := 4, later := [], offset := 0 }

/-- The head of channel 4's record image, revision 12, two points; its CRC is AC9Ah. -/
def smallHead : List Byte :=
  [4#8, 0#8, 12#8, 0#8, 2#8] ++ List.replicate 11 0#8 ++ [0xAC#8, 0x9A#8]

/-- The tail of that image: the points (1, 5) and (2, 9). -/
def smallTail : List Byte := [0#8, 1#8, 0#8, 0#8, 5#8, 0#8, 2#8, 0#8, 0#8, 9#8]

/-- A load's walk with a read on the port, its bytes in the store; the table is clear. -/
def loadingAt (st : LoadStage) (address n : Nat) (bytes : List Byte) : State :=
  { empty with
    hold := true, ctl := .loading { stage := st, installed := 0, lost := 0 }
    port := some { address, kind := .read n, finishing := false, ticks := 0 }
    store := Mem.writeBytes [] address bytes }

/-- R164: area B is read after area A; with neither valid the load ends NO_IMAGE. -/
theorem test_loadHeaderRead : (after .loadHeaderReadCompletion (loadingAt .readA 0 64 [])).port =
      some { address := 32768, kind := .read 64, finishing := false, ticks := 0 } ∧
    (after .loadHeaderReadCompletion (loadingAt (.readB none) 32768 64 [])).lastLoad = .noImage := by decide +kernel

/-- R164: the silence of area A's header moves on to area B. -/
theorem test_loadHeaderSilence :
    (after .loadHeaderSilence
      { loadingAt .readA 0 64 [] with
        port := some { address := 0, kind := .read 64, finishing := false, ticks := 24 } }).port =
      some { address := 32768, kind := .read 64, finishing := false, ticks := 0 } := by decide +kernel

/-- R165, section 9.9 step 6: the checks pass and the tail of 10 bytes is read at 8040h + 12h. -/
theorem test_loadHeadRead :
    (after .loadHeadReadCompletion (loadingAt (.head smallWalk) 0x8040 18 smallHead)).port =
      some { address := 0x8052, kind := .read 10, finishing := false, ticks := 0 } := by decide +kernel

/-- R168, section 9.9 step 7: installed in slot 0 under revision 12, and the load ends LOADED. -/
theorem test_loadTailRead :
    (after .loadTailReadCompletion (loadingAt (.tail smallWalk smallHead) 0x8052 10 smallTail)).entry 4 =
        { binding := .bound 0, revision := 12#16 } ∧
      (after .loadTailReadCompletion (loadingAt (.tail smallWalk smallHead) 0x8052 10 smallTail)).lastLoad =
        .loaded .b 7#32 861#32 1 := by decide +kernel

/-- R166, section 9.9 step 11: a CRC that fails leaves the channel LOST with revision 0. -/
theorem test_loadTailRead_crc :
    (after .loadTailReadCompletion (loadingAt (.tail smallWalk smallHead) 0x8052 10 (smallTail.set 4 6#8))).entry 4 =
      { binding := .lost, revision := 0#16 } := by decide +kernel

/-- R170: the silence of a head read ends the load STORE_FAULT with the channel LOST. -/
theorem test_loadWalkSilence :
    (after .loadWalkSilence
      { loadingAt (.head smallWalk) 0x8040 18 [] with
        port := some { address := 0x8040, kind := .read 18, finishing := false, ticks := 24 } }).lastLoad =
      .storeFault .b 7#32 861#32 0 1 := by decide +kernel

/-- R181: the repair of channel 42 starts. -/
theorem test_repairStart :
    (after .repairStart { damaged with control := Control.default }).ctl =
      .repairing { target := 42, slot := 2, stage := .readA } := by decide +kernel

/-- The header of an image that marks channel 42 alone. -/
def repairWalk : Walk :=
  { area := .b, header := { smallHeader with presence := [42] }, expected := 42, later := [], offset := 0 }

/-- Channel 42's image as section 12 lays it out: revision 2, BLOCK with a due time of 1000, CRC 37DEh. -/
def repairImage : List Byte :=
  [0x2A#8, 0#8, 2#8, 0x14#8, 2#8] ++ List.replicate 9 0#8 ++ [0x03#8, 0xE8#8, 0x37#8, 0xDE#8]

/-- A repair of channel 42 with a read on the port, its bytes in the store. -/
def repairingAt (st : RepairStage) (address n : Nat) (bytes : List Byte) : State :=
  { damaged with
    repairQueue := [], ctl := .repairing { target := 42, slot := 2, stage := st }
    port := some { address, kind := .read n, finishing := false, ticks := 0 }
    store := Mem.writeBytes [] address bytes }

/-- R182: with neither area valid the repair ends NOT_FOUND. -/
theorem test_repairHeaderRead :
    (after .repairHeaderReadCompletion (repairingAt (.readB none) 32768 64 [])).lastRepair = .notFound 42 none := by
  decide +kernel

/-- R183: the target's tail is read. -/
theorem test_repairHeadRead :
    (after .repairHeadReadCompletion (repairingAt (.head repairWalk) 0x8040 18 repairImage)).port =
      some { address := 0x8052, kind := .read 10, finishing := false, ticks := 0 } := by decide +kernel

/-- R185: the record is installed in slot 3 and SUSPECT replaced by REPAIRED; the damaged slot enters FREE. -/
theorem test_repairTailRead :
    (after .repairTailReadCompletion (repairingAt (.tail repairWalk repairImage) 0x8052 10 smallTail)).entry 42 =
        { binding := .bound 3, revision := 2#16 } ∧
      (after .repairTailReadCompletion (repairingAt (.tail repairWalk repairImage) 0x8052 10 smallTail)).reasonsOf 42 =
        0b01000#5 ∧
      (after .repairTailReadCompletion (repairingAt (.tail repairWalk repairImage) 0x8052 10 smallTail)).slot 2 =
        Slot.blank := by decide +kernel

/-- R186: the silence of a head read ends the repair STORE_FAULT. -/
theorem test_repairStoreSilence :
    (after .repairStoreSilence
      { repairingAt (.head repairWalk) 0x8040 18 [] with
        port := some { address := 0x8040, kind := .read 18, finishing := false, ticks := 24 } }).lastRepair =
      .storeFault 42 .b := by decide +kernel

/-! ### Witnesses: states and operands that meet the hypotheses of the statements, clause by clause -/

/-- The bench hears command frames. -/
theorem bench_hears : bench.hears := ⟨rfl, rfl, rfl⟩

/-- The editing bench hears command frames. -/
theorem editing_hears : editing.hears := by unfold State.hears; decide +kernel

/-- The bench in a load's drain. -/
def draining : State := { bench with hold := true, ctl := .loading { stage := .drain, installed := 0, lost := 0 } }

/-- The draining bench hears command frames. -/
theorem draining_hears : draining.hears := ⟨rfl, rfl, rfl⟩

/-- A page write on the port, its last byte at the top of the store. -/
def writing : State :=
  { bench with port := some { address := 65472, kind := .write (List.replicate 64 1#8), finishing := false, ticks := 0 } }

/-- ResetsEmptyTheDeviceAndKeepTheStore: a reset answers; a read on the port; a page write that ends at FFFFh, and an
address below it. -/
theorem witness_resets : exec (.pinReset []) bench = .next (after (.pinReset []) bench) ∧
    (∀ p ∈ (working (.saving (savingAt .readA)) 0 (.read 64) []).port, ∃ n, p.kind = .read n) ∧
    writing.port = some { address := 65472, kind := .write (List.replicate 64 1#8), finishing := false, ticks := 0 } ∧
    65472 + (List.replicate 64 1#8).length ≤ 65536 ∧ 65471 < 65472 := by
  refine ⟨rfl, ?_, rfl, by decide, by decide⟩
  intro p hp
  have : p = { address := 0, kind := .read 64, finishing := false, ticks := 0 } := by
    simpa [working, eq_comm] using hp
  exact ⟨64, by rw [this]⟩

/-- BootLoadBegins: the state right after a reset. -/
theorem witness_bootLoad : State.reset.held = true ∧ (∀ i, (State.reset.slot i).pins = 0) ∧
    (∀ k, State.reset.context k = none) ∧ State.reset.port = none := by
  decide +kernel

/-- HeldDeviceAndWaitingReceiverTakeNothing: the reset state with Save; a receiver that waits for chip select, with a
command and with a transaction. -/
theorem witness_held : State.reset.held = true ∧ (∀ torn, Instr.save ≠ .powerOnReset torn) ∧
    (∀ torn, Instr.save ≠ .pinReset torn) ∧ (∀ b, Instr.save ≠ .bootLoad b) ∧ (∀ n, Instr.save ≠ .resultTake n) ∧
    (∀ j c, Instr.save ≠ .upset j c) ∧ { empty with receiver := .awaitHigh }.held = false ∧
    { empty with receiver := .awaitHigh }.receiver = .awaitHigh ∧ Instr.save.isCommand = true ∧
    (Instr.responseRead 0).isTransaction = true := by
  refine ⟨rfl, ?_, ?_, ?_, ?_, ?_, rfl, rfl, rfl, rfl⟩ <;> intros <;> exact fun h => Instr.noConfusion h

/-- CommandFramesRoundTrip: the longest label and the longest list that fit a frame. -/
theorem witness_roundTrip : (Instr.setLabel 255 (List.replicate 62 0x41#8)).wf = true ∧
    (encodePayload (.setLabel 255 (List.replicate 62 0x41#8))).isSome = true ∧
    (Instr.putPoints 0 255#8 (List.replicate 12 { x := 0xFFFF#16, y := 0x800000#24 })).wf = true ∧
    (encodePayload (.putPoints 0 255#8 (List.replicate 12 { x := 0xFFFF#16, y := 0x800000#24 }))).isSome = true := by
  decide +kernel

/-- CommandWriteRunsItsCommand: a Set Time frame at an idle receiver, and at a port that hears it. -/
theorem witness_commandWrite : empty.held = false ∧ empty.receiver = .idle ∧ (Instr.setTime 3600#32).wf = true ∧
    encodeFrame (.setTime 3600#32) =
      some [0x40#8, 0x04#8, 0x00#8, 0x00#8, 0x0E#8, 0x10#8, 0x25#8, 0x1C#8] ∧ empty.hears ∧
    encodePayload (.setTime 3600#32) = some (.setTime, [0x00#8, 0x00#8, 0x0E#8, 0x10#8]) ∧
    Instr.setTime 3600#32 ≠ .restart := by
  unfold State.hears
  decide +kernel

/-- BadFramesAreAnswered: one byte; a length of 65; a length of 64 and too few bytes; a good length with a wrong CRC,
with an unknown code (00h) and with a known one; a payload of a length not allowed, in a load and outside. -/
theorem witness_badFrames : [0x10#8].length < 2 ∧ 64 < (65#8).toNat ∧ ([] : List Byte).length ≠ (64#8).toNat + 2 ∧
    (64#8).toNat ≤ 64 ∧
    be16 (deviceCrc [0x73#8, 0x00#8]) ≠ [0#8, 0#8] ∧ [0#8, 0#8].length = (0#8).toNat + 2 ∧
    be16 (deviceCrc [0x73#8, 0x00#8]) = [0xAA#8, 0x0B#8] ∧ (∀ k ∈ allCodes, codeByte k ≠ 0x00#8) ∧
    codeByte .readIdentity = 0x73#8 ∧ bench.hears ∧ draining.hears ∧ draining.isLoading = true ∧
    bench.isLoading = false ∧ decodePayload .openEdit [] = none ∧
    checkFrame (frameOf .openEdit []) = .good .openEdit [] ∧ decodePayload .save [0#8] = none ∧
    checkFrame (frameOf .save [0#8]) = .good .save [0#8] := by
  refine ⟨?_, ?_, ?_, ?_, ?_, ?_, ?_, ?_, ?_, bench_hears, draining_hears, ?_, ?_, ?_, ?_, ?_, ?_⟩ <;> decide +kernel

/-- PendingProbeRefusesFrames: a waiting probe, a Set Time, a frame that is no Restart. -/
theorem witness_pendingProbe : (after (.probe 40 0#16 0#8) bench).held = false ∧
    (after (.probe 40 0#16 0#8) bench).receiver = .idle ∧ (after (.probe 40 0#16 0#8) bench).probe ≠ .none ∧
    (Instr.setTime 0#32).isCommand = true ∧ Instr.setTime 0#32 ≠ .restart ∧
    checkFrame [] = .bad none .frameLength := by decide +kernel

/-- TakenFramesAreCounted: Save at the bench. -/
theorem witness_counted : bench.hears ∧ encodePayload .save = some (.save, []) ∧ Instr.save ≠ .restart :=
  ⟨bench_hears, rfl, by decide⟩

/-- TransactionsShiftOut: an open receiver; no whole byte; a first byte of C2h. -/
theorem witness_transactions : empty.held = false ∧ empty.receiver = .idle ∧
    (∀ b ∈ ([] : List Byte).head?, b ≠ 0xC3#8 ∧ b ≠ 0x3C#8) ∧
    (∀ b ∈ [0xC2#8].head?, b ≠ 0xC3#8 ∧ b ≠ 0x3C#8) := by decide

/-- OpenEditStagesItsEntry: CREATE of a LOST and of an UNASSIGNED channel, REPLACE_EMPTY of an ACTIVE and of a SUSPECT
one, with slot 3 the lowest FREE. -/
theorem witness_openEdit : bench.hears ∧ bench.isLoading = false ∧ bench.isLowestFree 3 ∧ bench.edits = [] ∧
    (bench.entry 43).binding = .lost ∧ (bench.entry 255).binding = .unassigned ∧
    (bench.entry 40).binding = .bound 0 ∧ (bench.slot 0).state = .active ∧ damaged.hears ∧ damaged.isLowestFree 3 ∧
    (damaged.entry 42).binding = .bound 2 ∧ (damaged.slot 2).state = .suspect := by
  unfold State.isLowestFree State.hears
  decide +kernel

/-- OpenEditStagesItsEntry, REPLACE_COPY: a sound source whose points just fit the free cells. -/
theorem witness_openEdit_copy :
    ({ bench with freeCells := 3 } : State).hears ∧ ({ bench with freeCells := 3 } : State).isLowestFree 3 ∧
    (bench.entry 41).binding = .bound 1 ∧ (bench.slot 1).state = .active ∧
    (bench.slot 1).content.points.length ≤ 3 ∧
    contentCrc (bench.slot 1).content = (bench.slot 1).content.crc := by
  unfold State.isLowestFree State.hears
  decide +kernel

/-- The bench with channel 42's record altered and not yet found. -/
def altered : State :=
  { bench.setSlot 2 { state := .active, pins := 0, expired := false, content := dueRecord } with
    control := { Control.default with repairEnable := false } }

/-- The altered bench keeps the binding law. -/
theorem altered_bindingLaw : altered.bindingLaw := by unfold State.bindingLaw; decide +kernel

/-- OpenEditRefusalsInOrder, check 8: an ACTIVE source whose content check fails, with repair enable off. -/
theorem witness_openEdit_mismatch : altered.hears ∧ altered.bindingLaw ∧ altered.isLoading = false ∧
    altered.control.repairEnable = false ∧ (altered.entry 42).binding = .bound 2 ∧
    (altered.slot 2).state = .active ∧ altered.edits = [] ∧ altered.isLowestFree 3 ∧
    (altered.slot 2).content.points.length ≤ altered.freeCells ∧
    contentCrc (altered.slot 2).content ≠ (altered.slot 2).content.crc := by
  refine ⟨⟨rfl, rfl, rfl⟩, altered_bindingLaw, ?_⟩
  unfold State.isLowestFree
  decide +kernel

/-- Sixteen entries: channels 100 to 115, all RETIRE. -/
def fullSet : State :=
  { bench with edits := (List.range 16).map fun n => { channel := Fin.ofNat 256 (100 + n), kind := .retire, slot := none } }

/-- Every slot from 3 on STAGED. -/
def noSlots : State :=
  { bench with
    slots := tabulate fun i =>
      if i.val < 3 then bench.slot i else { Slot.blank with state := .staged } }

/-- OpenEditRefusalsInOrder, checks 1 to 7: a load; a kind of 4; an entry for the channel; a set of 16; each kind with a
channel that does not fit it; no FREE slot; no cells. -/
theorem witness_openEdit_refusals : draining.hears ∧ draining.isLoading = true ∧ 3 < (4#8).toNat ∧
    (∃ e ∈ editing.edits, e.channel = 9) ∧ 16 ≤ fullSet.edits.length ∧ (∀ e ∈ fullSet.edits, e.channel ≠ 40) ∧
    (bench.entry 40).binding = .bound 0 ∧ (bench.entry 43).binding = .lost ∧ (bench.entry 0).binding = .unassigned ∧
    (damaged.slot 2).state = .suspect ∧ (∀ i, (noSlots.slot i).state ≠ .free) ∧ (noSlots.entry 9).binding = .unassigned ∧
    (noSlots.slot 0).state = .active ∧ (∃ i, (bench.slot i).state = .free) ∧ 4 < (bench.slot 0).content.points.length := by
  refine ⟨draining_hears, ?_⟩
  decide +kernel

/-- OpenEditRefusalsInOrder, check 7: a SUSPECT record and no FREE slot. -/
theorem witness_openEdit_noSlot :
    let s := noSlots.setSlot 2 { bench.slot 2 with state := .suspect }
    s.hears ∧ s.isLoading = false ∧ s.edits = [] ∧ (s.entry 42).binding = .bound 2 ∧ (s.slot 2).state = .suspect ∧
      ∀ i, (s.slot i).state ≠ .free := by
  refine ⟨⟨rfl, rfl, rfl⟩, ?_⟩
  decide +kernel

/-- A staged copy of channel 41 in slot 3. -/
def copying : State := after (.openEdit 41 0x01#8) bench

/-- ContentCommandsWriteTheirItems: the entry of channel 9; codes at both ends of their ranges; a label of 15
characters from 20h to 7Eh; a list trimmed to 0 and to its length. -/
theorem witness_contentCommands : editing.hears ∧ editing.isLoading = false ∧
    editing.findEdit 9 = some { channel := 9, kind := .create, slot := some 3 } ∧
    (1#8 : Byte) = formatCode .s16 ∧ (1#8 : Byte) = endModeCode .extend ∧ (1#8 : Byte) = actionCode .block ∧
    (0#8 : Byte) = formatCode .u16 ∧ (0#8 : Byte) = endModeCode .clamp ∧ (0#8 : Byte) = actionCode .warn ∧
    (1#32 : Word) ≠ 0#32 ∧ (List.replicate 15 0x7E#8).length ≤ 15 ∧
    (∀ b ∈ List.replicate 15 0x7E#8, 0x20#8 ≤ b ∧ b ≤ 0x7E#8) ∧ (∀ b ∈ [0x20#8], 0x20#8 ≤ b ∧ b ≤ 0x7E#8) ∧
    (0#8).toNat ≤ (editing.slot 3).content.points.length ∧ (copying.slot 3).content.points.length = 3 := by
  refine ⟨editing_hears, ?_⟩
  decide +kernel

/-- ContentCommandsWriteTheirItems, Put Points: 12 points from the end of the list, 2 that overwrite within it, and a
list that grows to 32 with just the cells it needs. -/
theorem witness_putPoints : copying.hears ∧ copying.isLoading = false ∧
    copying.findEdit 41 = some { channel := 41, kind := .replaceCopy, slot := some 3 } ∧
    (3#8).toNat ≤ (copying.slot 3).content.points.length ∧ (3#8).toNat + 12 ≤ 32 ∧
    max (copying.slot 3).content.points.length ((3#8).toNat + 12) ≤
      copying.freeCells + (copying.slot 3).content.points.length ∧
    (1#8).toNat + 2 ≤ 32 ∧ (20#8).toNat + 12 = 32 := by
  unfold State.hears
  decide +kernel

/-- ContentCommandRefusalsInOrder: a load; a channel without an entry; a RETIRE entry; codes of 2, a present due time of
0; a label of 16 characters and one with 7Fh; a count above the list; no points, a start above the count, an end above
32; no cells. -/
theorem witness_contentRefusals : draining.isLoading = true ∧ editing.findEdit 8 = none ∧
    fullSet.findEdit 100 = some { channel := 100, kind := .retire, slot := none } ∧ 1 < (2#8).toNat ∧
    15 < (List.replicate 16 0x41#8).length ∧ (∃ b ∈ [0x7F#8], b < 0x20#8 ∨ 0x7E#8 < b) ∧
    (editing.slot 3).content.points.length < (1#8).toNat ∧ (editing.slot 3).content.points.length < (1#8).toNat ∧
    (copying.slot 3).content.points.length = 3 ∧ 32 < (21#8).toNat + 12 ∧
    ({ editing with freeCells := 0 } : State).freeCells + (editing.slot 3).content.points.length < (0#8).toNat + 1 := by
  decide +kernel

/-- DropEditAndAbandonDiscard: the only entry, with its slot; a RETIRE entry between others; a channel without an
entry; a load. -/
theorem witness_dropEdit : copying.hears ∧ copying.isLoading = false ∧
    copying.edits = [] ++ { channel := 41, kind := .replaceCopy, slot := some 3 } :: [] ∧
    (copying.slot 3).pins = 0 ∧ fullSet.edits = fullSet.edits.take 1 ++
      { channel := 101, kind := .retire, slot := none } :: fullSet.edits.drop 2 ∧
    (∀ d ∈ fullSet.edits.take 1, d.channel ≠ 101) ∧ (∀ e ∈ copying.edits, e.channel ≠ 40) ∧ bench.edits = [] ∧
    copying.edits ≠ [] ∧ (copying.edits.filterMap Entry.slot).Nodup ∧
    (∀ e ∈ copying.edits, ∀ i ∈ e.slot, (copying.slot i).pins = 0) ∧ draining.isLoading = true := by
  unfold State.hears
  decide +kernel

/-- ReadEditSetReportsTheSet: starts of 16 and 15; a set of 16; the three states of the timer. -/
theorem witness_readEditSet : bench.hears ∧ 15 < (16#8).toNat ∧ (15#8).toNat ≤ 15 ∧ fullSet.edits.length ≤ 16 ∧
    bench.lease = .stopped ∧ ({ editing with lease := .untimed } : State).lease = .untimed ∧
    editing.lease = .counting 30#8 0 ∧ fullSet.edits[15]? = some { channel := 115, kind := .retire, slot := none } := by
  refine ⟨bench_hears, ?_⟩
  decide +kernel

/-- A second entry whose list is empty behind a valid first one. -/
def halfDone : State := after (.openEdit 9 0x00#8) copying

/-- CommitValidatesItsSet: 1 point; two equal x; limits with low equal to high; a due time equal to part time; a record
that passes; the refusals; a set that fails at index 1. -/
theorem witness_commitValidates : [({ x := 0#16, y := 0#24 } : Point)].length < 2 ∧
    contentOrdered { blankContent with points := [{ x := 7#16, y := 0#24 }, { x := 7#16, y := 1#24 }] } = false ∧
    validateContent 0#32 { u16Record with limits := some { low := 5#24, high := 5#24 } } = some .limits ∧
    validateContent 1000#32 dueRecord = some .duePast ∧ validateContent 999#32 dueRecord = none ∧
    draining.isLoading = true ∧ bench.edits = [] ∧ halfDone.isLoading = false ∧ halfDone.isSaving = false ∧
    ({ editing with ctl := .saving (savingAt .readA) } : State).isSaving = true ∧
    halfDone.edits = [{ channel := 41, kind := .replaceCopy, slot := some 3 }] ++
      { channel := 9, kind := .create, slot := some 4 } :: [] ∧
    validateContent halfDone.partTime (halfDone.slot 3).content = none ∧
    validateContent halfDone.partTime (halfDone.slot 4).content = some .points := by decide +kernel

/-- CommitAppliesTheWholeSet: a replacement and a retirement, the replaced slot pinned. -/
def committing : State := after (.openEdit 43 0x03#8) (after (.openEdit 40 0x01#8) inFlight)

/-- CommitAppliesTheWholeSet: its hypotheses, with a pinned slot to supersede and a RETIRE entry. -/
theorem witness_commit : committing.hears ∧ committing.isLoading = false ∧ committing.isSaving = false ∧
    committing.edits = [{ channel := 40, kind := .replaceCopy, slot := some 3 },
      { channel := 43, kind := .retire, slot := none }] ∧ committing.bindingLaw ∧ committing.editLaw ∧
    (committing.slot 0).pins = 1 ∧
    (∀ e ∈ committing.edits, ∀ i, e.slot = some i →
      validateContent committing.partTime (committing.slot i).content = none) := by
  unfold State.hears State.bindingLaw State.editLaw
  refine ⟨?_, ?_, ?_, ?_, ?_, ⟨?_, ?_, ?_, ?_⟩, ?_, ?_⟩ <;> decide +kernel

/-- ReadMapEntryReportsTheEntry: an entry of each kind. -/
theorem witness_readMapEntry : bench.hears ∧ (bench.entry 40).binding = .bound 0 ∧
    (bench.entry 255).binding = .unassigned ∧ (bench.entry 43).binding = .lost := by
  refine ⟨bench_hears, ?_⟩
  decide +kernel

/-- ReadRecordAndPointsReportTheSlot: selectors of 2, 0 and 1; counts of 0, 13 and beyond the list; the whole list; a
label of 15 characters; a RETIRE entry; no entry. -/
theorem witness_readRecord : bench.hears ∧ copying.hears ∧ 1 < (2#8).toNat ∧ (bench.entry 43).binding = .lost ∧
    (bench.entry 40).binding = .bound 0 ∧ 12 < (13#8).toNat ∧
    (bench.slot 0).content.points.length < (0#8).toNat + (6#8).toNat ∧
    (0#8).toNat + (5#8).toNat ≤ (bench.slot 0).content.points.length ∧ (bench.slot 0).content.label.length ≤ 15 ∧
    bench.findEdit 40 = none ∧ fullSet.findEdit 100 = some { channel := 100, kind := .retire, slot := none } ∧
    copying.findEdit 41 = some { channel := 41, kind := .replaceCopy, slot := some 3 } := by
  unfold State.hears
  decide +kernel

/-- LaneQueuesAreFifo: an enabled lane with 7 requests; a disabled lane; a lane with 8; a result to take; none. -/
theorem witness_lanes :
    let q : Request := { channel := 0, raw := 0#16, tag := 0#8 }
    let s7 := bench.setLane 3 { requests := List.replicate 7 q, results := [], inFlight := 0 }
    let s8 := bench.setLane 3 { requests := List.replicate 8 q, results := [], inFlight := 0 }
    s7.held = false ∧ s7.control.laneEnable.get 3 = true ∧ (s7.lane 3).requests.length < 8 ∧
      8 ≤ (s8.lane 3).requests.length ∧
      ({ Control.default with laneEnable := Vector.replicate 4 false }).laneEnable.get 3 = false ∧
      ((after (.laneCompletion 0) inFlight).lane 0).results ≠ [] ∧ (bench.lane 0).results = [] := by decide +kernel

/-- The bench with a request of lane 2 for channel 40, one for channel 43 and the pointer at the host. -/
def asking : State :=
  { bench.setLane 2 { requests := [{ channel := 40, raw := 0#16, tag := 1#8 }, { channel := 43, raw := 0#16, tag := 2#8 }]
                      results := [], inFlight := 7 } with pointer := 4 }

/-- A position that may not be granted. -/
theorem not_lane_granted {s : State} {p : Fin 5} (n : LaneIdx) (hp : p = n.castSucc) (h : (s.lane n).requests = []) :
    ¬ s.mayBeGranted p := by
  rintro (⟨m, hm, hr, _⟩ | ⟨h4, _⟩)
  · have : m = n := by
      have := hm.symm.trans hp
      exact Fin.castSucc_injective _ this
    subst this
    exact hr h
  · have := hp.symm.trans h4
    have := congrArg Fin.val this
    simp at this
    omega

/-- LaneGrantStartsALookup: lane 2 is granted context 0, from the pointer at the host past lanes 0 and 1, with room for
just one result more; channel 40 is BOUND, channel 43 LOST. -/
theorem witness_laneGrant : asking.held = false ∧ asking.grants (2 : LaneIdx).castSucc 0 ∧
    (asking.lane 2).requests = [{ channel := 40, raw := 0#16, tag := 1#8 }, { channel := 43, raw := 0#16, tag := 2#8 }] ∧
    (asking.entry 40).binding = .bound 0 ∧ (∀ i, (asking.entry 43).binding ≠ .bound i) ∧
    (∀ (n : LaneIdx) k, ¬ bench.grants n.castSucc k) := by
  refine ⟨rfl, ⟨rfl, by decide +kernel, by decide +kernel, 3, by decide +kernel, .inl ⟨2, rfl, by decide +kernel,
    by decide +kernel⟩, ?_⟩, by decide +kernel, by decide +kernel, by decide +kernel, ?_⟩
  · intro e he
    have h3 : e.val < 3 := he
    match e, h3 with
    | 0, _ =>
      rintro (⟨m, hm, _⟩ | ⟨_, q, hq⟩)
      · have := congrArg Fin.val hm
        have h4 : ((asking.pointer + 0 : Fin 5)).val = 4 := by decide +kernel
        rw [h4] at this
        simp at this
        omega
      · have hn : asking.probe = .none := rfl
        rw [hn] at hq
        cases hq
    | 1, _ => exact not_lane_granted 0 (by decide +kernel) (by decide +kernel)
    | 2, _ => exact not_lane_granted 1 (by decide +kernel) (by decide +kernel)
  · rintro n k ⟨_, _, _, d, _, hg, _⟩
    have hq : ∀ n : LaneIdx, (bench.lane n).requests = [] := by decide +kernel
    exact not_lane_granted n rfl (hq n) hg

/-- A staged copy of channel 41 with a STAGED probe of it waiting. -/
def probing : State := after (.probe 41 0#16 0x01#8) copying

/-- With no lane's request queued, the waiting probe is granted context 0 from the pointer at lane 0. -/
theorem grants_probe {s : State} {q : ProbeRequest} (hh : s.hold = false) (hc : s.context 0 = none)
    (hp : s.pointer = 0) (hq : s.probe = .waiting q) (hl : ∀ n, (s.lane n).requests = []) : s.grants 4 0 := by
  refine ⟨hh, hc, fun j hj => absurd hj (Fin.not_lt_zero j), 4, by rw [hp]; rfl, .inr ⟨rfl, q, hq⟩, ?_⟩
  intro e he
  rw [hp]
  have h4 : e.val < 4 := he
  refine not_lane_granted ⟨e.val, h4⟩ ?_ (hl _)
  simp

/-- ProbeIsAnsweredAndGranted, the command: a load; a selector of 2; no entry; a RETIRE entry; a list that is not ready;
one that is. -/
theorem witness_probe : draining.hears ∧ draining.isLoading = true ∧ 1 < (2#8).toNat ∧ bench.findEdit 40 = none ∧
    fullSet.findEdit 100 = some { channel := 100, kind := .retire, slot := none } ∧
    editing.findEdit 9 = some { channel := 9, kind := .create, slot := some 3 } ∧
    ¬ 2 ≤ (editing.slot 3).content.points.length ∧
    copying.findEdit 41 = some { channel := 41, kind := .replaceCopy, slot := some 3 } ∧
    probeReady (copying.slot 3).content = true := by
  refine ⟨draining_hears, ?_⟩
  decide +kernel

/-- ProbeIsAnsweredAndGranted, the grant: an ACTIVE probe of a BOUND and of a LOST channel, a STAGED probe whose entry
stands, and one whose entry is gone. -/
theorem witness_probeGrant : (after (.probe 40 0#16 0#8) bench).held = false ∧
    (after (.probe 40 0#16 0#8) bench).grants 4 0 ∧
    (after (.probe 40 0#16 0#8) bench).probe = .waiting { channel := 40, raw := 0#16, which := .active, staged := none } ∧
    ((after (.probe 40 0#16 0#8) bench).entry 40).binding = .bound 0 ∧ (after (.probe 43 0#16 0#8) bench).grants 4 0 ∧
    ((after (.probe 43 0#16 0#8) bench).entry 43).binding = .lost ∧ probing.grants 4 0 ∧
    probing.probe = .waiting { channel := 41, raw := 0#16, which := .staged, staged := some 3 } ∧
    probing.findEdit 41 = some { channel := 41, kind := .replaceCopy, slot := some 3 } ∧
    ({ probing with edits := [] } : State).grants 4 0 ∧ ({ probing with edits := [] } : State).findEdit 41 = none := by
  refine ⟨by decide +kernel, ?_, by decide +kernel, by decide +kernel, ?_, by decide +kernel, ?_, by decide +kernel,
    by decide +kernel, ?_, by decide +kernel⟩
  · exact grants_probe (q := { channel := 40, raw := 0#16, which := .active, staged := none }) (by decide +kernel)
      (by decide +kernel) (by decide +kernel) (by decide +kernel) (by decide +kernel)
  · exact grants_probe (q := { channel := 43, raw := 0#16, which := .active, staged := none }) (by decide +kernel)
      (by decide +kernel) (by decide +kernel) (by decide +kernel) (by decide +kernel)
  · exact grants_probe (q := { channel := 41, raw := 0#16, which := .staged, staged := some 3 }) (by decide +kernel)
      (by decide +kernel) (by decide +kernel) (by decide +kernel) (by decide +kernel)
  · exact grants_probe (q := { channel := 41, raw := 0#16, which := .staged, staged := some 3 }) (by decide +kernel)
      (by decide +kernel) (by decide +kernel) (by decide +kernel) (by decide +kernel)

/-- The lookup that `inFlight` holds in context 0. -/
def lookup40 : Lookup :=
  { requester := .lane 0, tag := 0x11#8, channel := 40, raw := 0#16, which := .active, binding := some (.bound 0)
    revision := 7#16, pinned := some 0, drop := false }

/-- A probe of channel 43, LOST, granted context 0. -/
def probed : State := afterAll [.probe 43 0#16 0#8, .probeGrant] bench

/-- LaneCompletionDeliversItsResult and ProbeCompletionAnswersTheHost: outside a drain, a lookup with a slot pinned once,
and one without a slot, of a lane and of the host. -/
theorem witness_completions : inFlight.held = false ∧ inFlight.isLoading = false ∧
    inFlight.context 0 = some lookup40 ∧ lookup40.requester = .lane 0 ∧ lookup40.pinned = some 0 ∧
    (inFlight.slot 0).pins ≤ 1 ∧
    (inFlight.setContext 1 (some { lookup40 with pinned := none, drop := true })).context 1 =
      some { lookup40 with pinned := none, drop := true } ∧
    probed.held = false ∧ probed.isLoading = false ∧
    probed.context 0 = some { requester := .host, tag := 0#8, channel := 43, raw := 0#16, which := .active
                              binding := some .lost, revision := 0#16, pinned := none, drop := false } ∧
    ((afterAll [.probe 40 0#16 0#8, .probeGrant] bench).context 0).map Lookup.pinned = some (some 0) := by
  decide +kernel

/-- The bench draining with a dropped probe in flight and a lane's lookup without a slot. -/
def twoInFlight : State :=
  afterAll [.probe 40 0#16 0#8, .probeGrant, .restart, .requestArrival 0 0x2B000012#32, .laneGrant, .reload] bench

/-- LaneCompletionDeliversItsResult and ProbeCompletionAnswersTheHost, in a drain: each while the other is in flight. -/
theorem witness_completions_drain : twoInFlight.held = false ∧
    twoInFlight.ctl = .loading { stage := .drain, installed := 0, lost := 0 } ∧
    (twoInFlight.context 0).map Lookup.requester = some .host ∧ (twoInFlight.context 0).map Lookup.drop = some true ∧
    (twoInFlight.context 1).map Lookup.requester = some (.lane 0) ∧
    (twoInFlight.context 1).map Lookup.pinned = some none := by decide +kernel

/-- ResultIsDecidedAtCompletion: a SUSPECT slot; an expired slot under BLOCK and under WARN; one that is not expired. -/
theorem witness_result : lookup40.pinned = some 0 ∧ (damaged.slot 2).state = .suspect ∧
    ((after (.setTime 4999#32) bench).slot 2).expired = true ∧
    ((after (.setTime 4999#32) bench).slot 2).content.action = .block ∧
    ((after (.setTime 4999#32) bench).slot 2).state ≠ .suspect ∧ blankContent.action = .warn ∧
    (bench.slot 0).expired = false := by decide +kernel

/-- InsideTheRangeInterpolates: section 2.5's record at 1F40h, the end of segment 0 and the start of segment 1, and at
the last point; a segment of zero width. -/
theorem witness_inside : u16Record.points[0]? = some { x := 0x03E8#16, y := BitVec.ofInt 24 (-50000) } ∧
    u16Record.points[1]? = some { x := 0x1F40#16, y := 0#24 } ∧
    readX .u16 0x03E8#16 ≤ readX .u16 0x1F40#16 ∧ readX .u16 0x1F40#16 ≤ readX .u16 0x1F40#16 ∧
    u16Record.points.getLast? = some { x := 0xEA60#16, y := 95000#24 } ∧
    readX .u16 0x9C40#16 ≤ readX .u16 0xEA60#16 ∧ ¬ readX .u16 0xEA60#16 ≤ readX .u16 0x9C40#16 ∧
    readX .s16 0x8000#16 = readX .s16 0x8000#16 := by decide +kernel

/-- OutsideTheRangeClampsOrExtends: both lists with their first and last segments; raw codes one below the first x and
one above the last. -/
theorem witness_outside :
    s16Record.points = { x := 0xADF8#16, y := 8000000#24 } :: { x := 0#16, y := 0#24 } ::
      [{ x := 0x1B58#16, y := BitVec.ofInt 24 (-2000000) }] ∧
    s16Record.points = [{ x := 0xADF8#16, y := 8000000#24 }] ++ [{ x := 0#16, y := 0#24 },
      { x := 0x1B58#16, y := BitVec.ofInt 24 (-2000000) }] ∧
    readX .s16 0xADF7#16 < readX .s16 0xADF8#16 ∧ readX .s16 0x1B58#16 < readX .s16 0x1B59#16 ∧
    readX .u16 0x03E7#16 < readX .u16 0x03E8#16 ∧ readX .u16 0xEA60#16 < readX .u16 0xEA61#16 ∧
    s16Record.endMode = .extend ∧ u16Record.endMode = .clamp ∧ readX .s16 0xADF8#16 ≠ readX .s16 0#16 := by
  decide +kernel

/-- MillisecondTickAndStepExpiry: a quiet tick one before a second, a silence and a step; a step expiry with and
without an ACTIVE slot, on a sound and on an altered record. -/
theorem witness_tick :
    ({ bench with msCount := 998, scrubCount := 18
                  port := some { address := 0, kind := .read 64, finishing := false, ticks := 23 } } : State).quietTick ∧
    ({ bench with control := { Control.default with step := 0#8 } } : State).quietTick ∧
    altered.bindingLaw ∧ altered.held = false ∧ altered.msCount < 999 ∧ altered.port = none ∧
    altered.control.step ≠ 0#8 ∧ 19 + 1 = altered.control.step.toNat ∧ altered.control.repairEnable = false ∧
    (∀ i, (empty.slot i).state ≠ .active) ∧ (altered.slot (2 + 0)).state = .active ∧
    contentCrc (altered.slot 2).content ≠ (altered.slot 2).content.crc ∧ (altered.entry 42).binding = .bound 2 ∧
    (altered.slot (126 + 2)).state = .active ∧ (∀ e < (2 : Fin 128), (altered.slot (126 + e)).state ≠ .active) ∧
    contentCrc (altered.slot 0).content = (altered.slot 0).content.crc := by
  unfold State.quietTick
  refine ⟨⟨by decide, ?_, by decide⟩, ⟨by decide, ?_, by decide⟩, altered_bindingLaw, by decide +kernel⟩
  · intro t ht
    simp only [Option.mem_some_iff] at ht
    rw [← ht]
    decide
  · intro t ht
    cases ht

/-- MillisecondTickAndStepExpiry: the step expiry of a save whose read is one tick before its silence, and of an IDLE
device with repair enable on. -/
theorem witness_tick_busy :
    let s : State :=
      { altered with
        ctl := .saving (savingAt .readA), scrubCount := 19
        port := some { address := 0, kind := .read 64, finishing := false, ticks := 23 } }
    let r : State := { altered with control := Control.default, scrubCount := 19 }
    s.held = false ∧ s.msCount < 999 ∧ (∀ t ∈ s.port, t.ticks < 24) ∧ s.scrubCount + 1 = s.control.step.toNat ∧
      s.bindingLaw ∧ r.ctl = .idle ∧ r.control.repairEnable = true ∧ (∀ t ∈ r.port, t.ticks < 24) ∧ r.bindingLaw ∧
      (after (.stepExpiry false) { r with scrubPos := 2 }).ctl =
        .repairing { target := 42, slot := 2, stage := .readA } := by
  refine ⟨rfl, by decide, ?_, by decide, altered_bindingLaw, rfl, rfl, ?_, altered_bindingLaw, by decide +kernel⟩
  · intro t ht
    simp only [Option.mem_some_iff] at ht
    rw [← ht]
    decide
  · intro t ht
    cases ht

/-- SecondsTickAdvancesPartTime: a tick that makes part time 1000, the due time of slot 2, and no step expiry; a lease
one second before its end; a part time that saturates. -/
theorem witness_seconds :
    let s : State := { bench with msCount := 999, partTime := 999#32, lease := .counting 30#8 28 }
    s.held = false ∧ s.msCount = 999 ∧ s.scrubCount + 1 < s.control.step.toNat ∧ 28 + 1 < (30#8).toNat ∧
      (s.slot 2).state = .active ∧ (s.slot 2).expired = false ∧ (s.slot 2).content.due = some 1000#32 ∧
      (1000#32).toNat ≤ (999#32 + 1#32).toNat ∧ (s.slot 0).content.due = none ∧
      ({ s with partTime := 4294967295#32 } : State).partTime = 4294967295#32 := by decide +kernel

/-- A staged copy, slot 2 already expired, and the lease at its last second. -/
def lapsing : State :=
  { copying.setSlot 2 { copying.slot 2 with expired := true } with msCount := 999, lease := .counting 30#8 29 }

/-- The lapsing state keeps the law of the edit set. -/
theorem lapsing_editLaw : lapsing.editLaw := by
  unfold State.editLaw
  refine ⟨?_, ?_, ?_, ?_⟩ <;> decide +kernel

/-- The lapsing state with slot 2 not yet expired, due at 1000. -/
def lapsingDue : State := { lapsing with slots := copying.slots }

/-- The lease at its last second, with a staged slot that a probe has pinned. -/
def lapsingPinned : State := { after .probeGrant probing with msCount := 999, lease := .counting 30#8 29 }

/-- Both keep the law of the edit set. -/
theorem lapsingOthers_editLaw : lapsingDue.editLaw ∧ lapsingPinned.editLaw := by
  unfold State.editLaw
  refine ⟨⟨?_, ?_, ?_, ?_⟩, ?_, ?_, ?_, ?_⟩ <;> decide +kernel

/-- SecondsTickAdvancesPartTime, the lapse: the tick that brings the count to the lease, with a staged slot, unpinned
or pinned by a probe, and no slot falling due; the same tick with a due time still to come, and with one it reaches. -/
theorem witness_lapse : (lapsing.editLaw ∧ lapsingDue.editLaw ∧ lapsingPinned.editLaw) ∧
    lapsing.held = false ∧ lapsing.msCount = 999 ∧ lapsing.lease = .counting 30#8 29 ∧ 29 + 1 = (30#8).toNat ∧
    lapsing.port = none ∧ lapsing.scrubCount + 1 < lapsing.control.step.toNat ∧ (lapsing.slot 3).state = .staged ∧
    (lapsing.slot 3).pins = 0 ∧ (lapsingPinned.slot 3).state = .staged ∧ (lapsingPinned.slot 3).pins = 1 ∧
    (∀ i, (lapsing.slot i).content.due ≠ none → (lapsing.slot i).expired = true) ∧
    lapsingDue.partTime = 0#32 ∧ (lapsingDue.slot 2).content.due = some 1000#32 ∧
    (lapsingDue.slot 2).expired = false ∧
    ((after (.leaseLapse false) { lapsingDue with partTime := 999#32 }).slot 2).expired = true :=
  ⟨⟨lapsing_editLaw, lapsingOthers_editLaw⟩, by decide +kernel⟩

/-- SecondsTickAdvancesPartTime, the step expiry on the same tick: an altered record at the position with repair enable
on, whose repair starts; a sound one; no ACTIVE slot; a step of 0. -/
theorem witness_secondsStep :
    let s : State := { altered with control := Control.default, msCount := 999, scrubCount := 19 }
    s.bindingLaw ∧ s.held = false ∧ s.port = none ∧ s.lease = .stopped ∧
      s.scrubCount + 1 = s.control.step.toNat ∧ (s.slot (2 + 0)).state = .active ∧ (s.entry 42).binding = .bound 2 ∧
      contentCrc (s.slot 2).content ≠ (s.slot 2).content.crc ∧ (s.slot 0).state = .active ∧ s.scrubPos = 0 ∧
      contentCrc (s.slot 0).content = (s.slot 0).content.crc ∧ (∀ i, (empty.slot i).state ≠ .active) ∧
      (after (.secondsTick false) { s with scrubPos := 2 }).ctl =
        .repairing { target := 42, slot := 2, stage := .readA } ∧
      (after (.secondsTick false) { s with control := { Control.default with step := 0#8 } }).scrubCount = 0 :=
  ⟨altered_bindingLaw, by decide +kernel⟩

/-- SetTimeSweeps and ReadAttentionReportsTheLowestMember: the bench; a member at the start itself, and none above. -/
theorem witness_setTime_readAttention : bench.hears ∧ damaged.hears ∧ (42 : Channel) ≤ 42 ∧ damaged.reasonsOf 42 ≠ 0#5 ∧
    (∀ d : Channel, 42 ≤ d → d < 42 → damaged.reasonsOf d = 0#5) ∧
    (∀ c : Channel, 43 ≤ c → damaged.reasonsOf c = 0#5) := by
  refine ⟨bench_hears, ⟨rfl, rfl, rfl⟩, ?_⟩
  decide +kernel

/-- ExpiredFlagStays: an expired ACTIVE slot in a state that keeps the edit law, and a step from it. -/
theorem witness_expiredFlag : lapsing.editLaw ∧ (lapsing.slot 2).state = .active ∧ (lapsing.slot 2).expired = true ∧
    step lapsing = .next lapsing := by
  refine ⟨lapsing_editLaw, by decide +kernel, by decide +kernel, ?_⟩
  have h : lapsing.pending = [] := by decide +kernel
  unfold step
  rw [h]

/-- UpsetAltersOneContent: a slot that is not FREE and a content with as many points; a FREE slot; fewer points. -/
theorem witness_upset : (bench.slot 2).state ≠ .free ∧
    ({ dueRecord with revision := 9#16 } : Content).points.length = (bench.slot 2).content.points.length ∧
    ({ dueRecord with revision := 9#16 } : Content).stated = true ∧ (bench.slot 3).state = .free ∧
    blankContent.points.length ≠ (bench.slot 2).content.points.length := by decide +kernel

/-- ClearReasonsAndCausesRemoveTheSelected: selections at the ends of their ranges. -/
theorem witness_clears : bench.hears ∧ 32 ≤ (32#8).toNat ∧ (31#8).toNat < 32 ∧ 8 ≤ (8#8).toNat ∧ (7#8).toNat < 8 :=
  ⟨bench_hears, by decide, by decide, by decide, by decide⟩

/-- OutputLinesFollowTheState: a lane with a result, and a threshold of 1. -/
theorem witness_lines : ((after (.laneCompletion 0) inFlight).lane 0).results =
      (lookupResult lookup40 inFlight.slot) :: [] ∧
    1 ≤ ((after (.laneCompletion 0) inFlight).control.threshold.get 0).toNat := by decide +kernel

/-- SaveAndStopSave: a busy controller; a SUSPECT slot; none; a save with a read, with a page write, with a finishing
write and with none on the port. -/
theorem witness_save : draining.hears ∧ draining.ctl ≠ .idle ∧ damaged.hears ∧ damaged.ctl = .idle ∧
    (∃ i, (damaged.slot i).state = .suspect) ∧ bench.hears ∧ (∀ i, (bench.slot i).state ≠ .suspect) ∧
    (working (.saving (savingAt .readA)) 0 (.read 64) []).hears ∧
    (working (.saving (savingAt (.body targetA))) 64 (.write [1#8]) []).hears ∧
    (∀ v, bench.ctl ≠ .saving v) := by
  refine ⟨draining_hears, by decide, ⟨rfl, rfl, rfl⟩, rfl, ⟨2, by decide +kernel⟩, bench_hears, by decide +kernel,
    ⟨rfl, rfl, rfl⟩, ⟨rfl, rfl, rfl⟩, ?_⟩
  intro v h
  cases h

/-- SaveChoosesItsTarget: a header read of either area in progress. -/
theorem witness_saveHeaders : (working (.saving (savingAt .readA)) 0 (.read 64) []).held = false ∧
    (working (.saving (savingAt .readA)) 0 (.read 64) []).reads (Mem.readBytes [] 0 64) ∧
    (working (.saving (savingAt (.readB none))) 32768 (.read 64) []).reads (Mem.readBytes [] 32768 64) :=
  ⟨rfl, ⟨_, _, rfl, rfl, rfl, rfl⟩, ⟨_, _, rfl, rfl, rfl, rfl⟩⟩

/-- A save of the bench whose last page is on the port. -/
def lastPage : State :=
  working (.saving { savingAt (.body targetA) with last := some 42, written := [40, 41, 42], done := 64 }) 128
    (.write [1#8, 2#8]) []

/-- SaveWritesTheBodyInPages: the invalidating write with every record to come, all of them sound; the last page with
none left. -/
theorem witness_savePages :
    (working (.saving (savingAt (.invalidate targetA))) 0 (.write [0#8, 0#8, 0#8, 0#8]) []).writes
      [0#8, 0#8, 0#8, 0#8] (Mem.writeBytes [] 0 [0#8, 0#8, 0#8, 0#8]) ∧
    (∀ c i, bench.boundSlot c = some i →
      (bench.slot i).state = .active ∧ contentSound (bench.slot i).content = true) ∧
    bench.bodyLeft (savingAt (.invalidate targetA)) ≠ [] ∧
    lastPage.writes [1#8, 2#8] (Mem.writeBytes [] 128 [1#8, 2#8]) ∧
    lastPage.bodyLeft { savingAt (.body targetA) with last := some 42, written := [40, 41, 42], done := 64 } = [] := by
  refine ⟨⟨_, rfl, rfl, rfl, rfl⟩, ?_, by decide +kernel, ⟨_, rfl, rfl, rfl, rfl⟩, by decide +kernel⟩
  have h : ∀ c, (bench.boundSlot c).all (fun i =>
      (bench.slot i).state == .active && contentSound (bench.slot i).content) = true := by decide +kernel
  intro c i hi
  have := h c
  rw [hi] at this
  simpa using this

/-- SaveEndsDoneOrFailed: the two writes of phase HEADER; a silent read and a silent page write. -/
theorem witness_saveEnds :
    (working (.saving (savingAt (.header targetA))) 0 (.write [7#8]) []).writes [7#8] (Mem.writeBytes [] 0 [7#8]) ∧
    (working (.saving (savingAt (.marker targetA))) 0 (.write markerBytes) []).writes markerBytes
      (Mem.writeBytes [] 0 markerBytes) ∧
    ({ working (.saving (savingAt .readA)) 0 (.read 64) [] with
       port := some { address := 0, kind := .read 64, finishing := false, ticks := 24 } } : State).silentTick
      { address := 0, kind := .read 64, finishing := false, ticks := 24 } ∧
    ({ lastPage with
       port := some { address := 128, kind := .write [1#8], finishing := false, ticks := 24 } } : State).silentTick
      { address := 128, kind := .write [1#8], finishing := false, ticks := 24 } :=
  ⟨⟨_, rfl, rfl, rfl, rfl⟩, ⟨_, rfl, rfl, rfl, rfl⟩, ⟨rfl, rfl, rfl, by decide, by decide⟩,
    ⟨rfl, rfl, rfl, by decide, by decide⟩⟩

/-- SaveEndsDoneOrFailed, FAILED_CORRUPT: channel 41's record is put into the page first; the next record, channel 42's,
is SUSPECT, or altered and not yet found; at the end of a page and of the invalidating write. -/
theorem witness_saveCorrupt :
    let v : SaveState := { savingAt (.body targetA) with last := some 40, written := [40], done := 64 }
    let w : SaveState := { savingAt (.invalidate targetA) with last := some 40, written := [40] }
    let port : Option Transfer := some { address := 128, kind := .write [1#8], finishing := false, ticks := 0 }
    (({ damaged with ctl := .saving v, port, store := [] } : State).writes [1#8] (Mem.writeBytes [] 128 [1#8]) ∧
        ({ altered with ctl := .saving w, port, store := [] } : State).writes [1#8] (Mem.writeBytes [] 128 [1#8]) ∧
        damaged.bindingLaw ∧ altered.bindingLaw) ∧
      v.last = w.last ∧ damaged.channelsLeft v.last = [41] ++ 42 :: [] ∧
      altered.channelsLeft v.last = [41] ++ 42 :: [] ∧ (damaged.entry 41).binding = .bound 1 ∧
      (damaged.slot 1).state = .active ∧
      contentCrc (damaged.slot 1).content = (damaged.slot 1).content.crc ∧
      (v.rest ++ recordImage (damaged.slot 1).content).length < 64 ∧
      (damaged.entry 42).binding = .bound 2 ∧ (damaged.slot 2).state = .suspect ∧
      (altered.slot 2).state = .active ∧
      contentCrc (altered.slot 2).content ≠ (altered.slot 2).content.crc := by
  refine ⟨⟨⟨_, rfl, rfl, rfl, rfl⟩, ⟨_, rfl, rfl, rfl, rfl⟩, ?_, altered_bindingLaw⟩, by decide +kernel⟩
  unfold State.bindingLaw
  decide +kernel

/-- FinishingWriteFreesThePort: a finishing write with a save waiting for the port, and with no operation; its silence;
a free port. -/
theorem witness_finishing :
    let p : Transfer := { address := 64, kind := .write [5#8], finishing := true, ticks := 24 }
    p.finishing = true ∧ p.kind = .write [5#8] ∧ ({ bench with port := some p } : State).silentTick p ∧
      (∃ v, ({ bench with port := some p, ctl := .saving (savingAt .readA) } : State).ctl = .saving v ∧
        v.stage = .readA) ∧ bench.port = none ∧ (∀ v, bench.ctl ≠ .saving v) := by
  refine ⟨rfl, rfl, ⟨rfl, rfl, rfl, by decide, by decide⟩, ⟨_, rfl, rfl⟩, rfl, ?_⟩
  intro v h
  cases h

/-- ImagesReadBack: every channel of the bench in a header; the two records of section 2, with limits and with a due
time; 64 bytes that are a valid header, and 64 that fail its CRC; a head of 18 bytes with a tail of L + 5n. -/
theorem witness_images : [(40 : Channel), 41, 42].Pairwise (· < ·) ∧ [(40 : Channel), 41, 42].length ≤ 128 ∧
    114 ≤ 32704 ∧ 2 ≤ u16Record.points.length ∧ u16Record.points.length ≤ 32 ∧ u16Record.label.length ≤ 15 ∧
    contentOrdered u16Record = true ∧ contentLimitsOk u16Record = true ∧ u16Record.due ≠ some 0#32 ∧
    2 ≤ dueRecord.points.length ∧ contentOrdered dueRecord = true ∧ dueRecord.due ≠ some 0#32 ∧
    (let valid := markerBytes ++ (headerImage 7#32 861#32 114 [40, 41, 42]).drop 4
     valid.length = 64 ∧ (parseHeader valid).isSome = true ∧ (valid.set 61 1#8).length = 64 ∧
       (valid.set 61 1#8).drop 62 ≠ be16 (deviceCrc ((valid.set 61 1#8).take 62))) ∧
    ((recordImage dueRecord).take 18).length = 18 ∧
    ((recordImage dueRecord).drop 18).length =
      (((recordImage dueRecord).take 18).getD 5 0#8).toNat + 5 * (((recordImage dueRecord).take 18).getD 4 0#8).toNat := by
  decide +kernel
/-- The bench draining with one lookup in flight, a lane's of channel 43, which is LOST: it pins no slot. -/
def slotless : State := afterAll [.requestArrival 0 0x2B000012#32, .laneGrant, .reload] bench

/-- R99, R103: the load waits for a lookup without a slot, and its completion clears the table. -/
theorem test_reload_slotless : slotless.ctl = .loading { stage := .drain, installed := 0, lost := 0 } ∧
    (slotless.entry 40).binding = .bound 0 ∧
    (after (.laneCompletion 0) slotless).ctl = .loading { stage := .readA, installed := 0, lost := 0 } ∧
    (after (.laneCompletion 0) slotless).entry 40 = MapEntry.blank := by decide +kernel

/-- ReloadAndTableClear: a busy controller; an open edit set; a pinned slot; a lookup without one; none; a drain whose
last lookup pins a slot, pins none, and is a dropped probe. -/
theorem witness_reload :
    let t := after .reload inFlight
    (draining.hears ∧ editing.hears ∧ inFlight.hears ∧ (inFlight.slot 0).pins ≠ 0) ∧
      draining.ctl ≠ .idle ∧ editing.ctl = .idle ∧ editing.edits ≠ [] ∧ inFlight.ctl = .idle ∧ inFlight.edits = [] ∧
      (∀ i, (bench.slot i).pins = 0) ∧ (∀ i, (draining.slot i).pins = 0) ∧ (∀ k, draining.context k = none) ∧
      t.held = false ∧ t.ctl = .loading { stage := .drain, installed := 0, lost := 0 } ∧
      t.context 0 = some lookup40 ∧ (∀ j, j ≠ 0 → t.context j = none) ∧
      (t.slot 0).pins = 1 ∧ (∀ j, j ≠ 0 → (t.slot j).pins = 0) := by
  refine ⟨⟨draining_hears, editing_hears, ?_⟩, by decide +kernel⟩
  unfold State.hears
  decide +kernel

/-- ReloadAndTableClear: the last lookup of a drain without a slot, and a dropped probe, pinned. -/
theorem witness_reload_last :
    let dropped := afterAll [.probe 40 0#16 0#8, .probeGrant, .restart, .reload] bench
    (slotless.context 0).map Lookup.pinned = some none ∧ (slotless.context 0).map Lookup.requester = some (.lane 0) ∧
      (∀ j, j ≠ 0 → slotless.context j = none) ∧ (∀ i, (slotless.slot i).pins = 0) ∧
      dropped.ctl = .loading { stage := .drain, installed := 0, lost := 0 } ∧
      (dropped.context 0).map Lookup.requester = some .host ∧ (dropped.context 0).map Lookup.drop = some true ∧
      (dropped.context 0).map Lookup.pinned = some (some 0) ∧ (dropped.slot 0).pins = 1 ∧
      (∀ j, j ≠ 0 → (dropped.slot j).pins = 0) ∧ ∀ j, j ≠ 0 → dropped.context j = none := by decide +kernel

/-- A silent read of this state's operation. -/
def silent (s : State) (address n : Nat) : State :=
  { s with port := some { address, kind := .read n, finishing := false, ticks := 24 } }

/-- The header of an image without a record. -/
def noRecords : Header := { smallHeader with count := 0, bodyLength := 0, presence := [] }

/-- LoadReadsTheHeaders: the read of area A's header and of area B's, and the silence of each; area A's image the
newest, with a channel and with none, or no image. -/
theorem witness_loadHeaders : (loadingAt .readA 0 64 []).held = false ∧
    (loadingAt .readA 0 64 []).reads (Mem.readBytes [] 0 64) ∧
    (loadingAt (.readB (some smallHeader)) 32768 64 []).reads (Mem.readBytes [] 32768 64) ∧
    parseHeader (Mem.readBytes [] 32768 64) = none ∧
    newest (some smallHeader) none = some (.a, smallHeader) ∧ smallHeader.presence = 4 :: [] ∧
    newest (some noRecords) none = some (.a, noRecords) ∧ noRecords.presence = [] ∧ newest none none = none ∧
    (silent (loadingAt .readA 0 64 []) 0 64).silentTick
      { address := 0, kind := .read 64, finishing := false, ticks := 24 } :=
  ⟨rfl, ⟨_, _, rfl, rfl, rfl, rfl⟩, ⟨_, _, rfl, rfl, rfl, rfl⟩, by decide +kernel, rfl, rfl, rfl, rfl, rfl,
    ⟨rfl, rfl, rfl, by decide, by decide⟩⟩

/-- The head of a record that lists no point and has no label, channel 4, revision 12; its CRC is E918h. -/
def emptyHead : List Byte :=
  [4#8, 0#8, 12#8] ++ List.replicate 13 0#8 ++ [0xE9#8, 0x18#8]

/-- LoadHeadsAndBrokenWalks: a trusted head that ends just at the body length; the same head where another channel is
expected, with revision 0, and one byte past the body length; a trusted head with a tail of 0 bytes whose CRC passes, and
one whose CRC fails; a silent head read and a silent tail read. -/
theorem witness_loadHead :
    ((loadingAt (.head smallWalk) 0x8040 18 smallHead).reads
        (Mem.readBytes (Mem.writeBytes [] 0x8040 smallHead) 0x8040 18) ∧
      (silent (loadingAt (.head smallWalk) 0x8040 18 []) 0x8040 18).silentTick
        { address := 0x8040, kind := .read 18, finishing := false, ticks := 24 } ∧
      (silent (loadingAt (.tail smallWalk smallHead) 0x8052 10 []) 0x8052 10).silentTick
        { address := 0x8052, kind := .read 10, finishing := false, ticks := 24 }) ∧
    Mem.readBytes (Mem.writeBytes [] 0x8040 smallHead) 0x8040 18 = smallHead ∧
    (decodeHead smallHead).channel = 4 ∧ (decodeHead smallHead).revision ≠ 0#16 ∧
    0 + (18 + ((decodeHead smallHead).labelLen + 5 * (decodeHead smallHead).count)) = 28 ∧
    smallWalk.header.bodyLength = 28 ∧ 0 < (decodeHead smallHead).labelLen + 5 * (decodeHead smallHead).count ∧
    (decodeHead smallHead).channel ≠ 5 ∧ (decodeHead (smallHead.set 2 0#8)).revision = 0#16 ∧
    Mem.readBytes (Mem.writeBytes [] 0x8040 emptyHead) 0x8040 18 = emptyHead ∧
    headTrusted smallWalk (decodeHead emptyHead) = true ∧
    (decodeHead emptyHead).labelLen + 5 * (decodeHead emptyHead).count = 0 ∧
    imageCrc emptyHead [] = (decodeHead emptyHead).crc ∧
    imageCrc (emptyHead.set 17 0#8) [] ≠ (decodeHead (emptyHead.set 17 0#8)).crc :=
  ⟨⟨⟨_, _, rfl, rfl, rfl, rfl⟩, ⟨rfl, rfl, rfl, by decide, by decide⟩, ⟨rfl, rfl, rfl, by decide, by decide⟩⟩,
    by decide +kernel⟩

/-- LoadTailInstallsOrLoses: a tail whose CRC passes, one whose CRC fails, one whose fields fail; the last record and
one with another after it; room for just two cells, none, and no FREE slot; a due time equal to part time. -/
theorem witness_loadTail :
    ((loadingAt (.tail smallWalk smallHead) 0x8052 10 smallTail).reads
        (Mem.readBytes (Mem.writeBytes [] 0x8052 smallTail) 0x8052 10) ∧
      (loadingAt (.tail smallWalk smallHead) 0x8052 10 smallTail).isLowestFree 0) ∧
    Mem.readBytes (Mem.writeBytes [] 0x8052 smallTail) 0x8052 10 = smallTail ∧
    (decodeHead smallHead).channel = smallWalk.expected ∧ imageCrc smallHead smallTail = (decodeHead smallHead).crc ∧
    imageCrc smallHead (smallTail.set 4 6#8) ≠ (decodeHead smallHead).crc ∧ fieldsValid smallHead smallTail = true ∧
    fieldsValid smallHead (smallTail.set 6 0#8) = false ∧ smallWalk.later = [] ∧
    ({ smallWalk with later := [9] } : Walk).later = 9 :: [] ∧ (decodeHead smallHead).count ≤ 2 ∧
    1 < (decodeHead smallHead).count ∧
    (∀ i, (noSlots.slot i).state ≠ .free) ∧ (decodeRecord repairImage smallTail).due = some 1000#32 := by
  refine ⟨⟨⟨_, _, rfl, rfl, rfl, rfl⟩, ?_⟩, by decide +kernel⟩
  unfold State.isLowestFree
  decide +kernel

/-- RepairStartsAndReadsTheHeaders: a queued channel with repair enable on, and off; a repair in progress; its header
reads; an image that marks the target and one that does not. -/
theorem witness_repairStart :
    ({ damaged with control := Control.default } : State).held = false ∧
    ({ damaged with control := Control.default } : State).ctl = .idle ∧
    ({ damaged with control := Control.default } : State).repairQueue = 42 :: [] ∧
    ({ damaged with control := Control.default } : State).control.repairEnable = true ∧
    (damaged.entry 42).binding = .bound 2 ∧ damaged.noRepairWaits ∧ (repairingAt .readA 0 64 []).ctl ≠ .idle ∧
    (repairingAt .readA 0 64 []).reads (Mem.readBytes [] 0 64) ∧
    (repairingAt (.readB (some repairWalk.header)) 32768 64 []).reads (Mem.readBytes [] 32768 64) ∧
    newest (some repairWalk.header) none = some (.a, repairWalk.header) ∧ repairWalk.header.presence = 42 :: [] ∧
    (42 : Channel) ∉ smallHeader.presence ∧
    (silent (repairingAt .readA 0 64 []) 0 64).silentTick
      { address := 0, kind := .read 64, finishing := false, ticks := 24 } :=
  ⟨rfl, rfl, rfl, rfl, by decide +kernel, .inr rfl, by decide, ⟨_, _, rfl, rfl, rfl, rfl⟩,
    ⟨_, _, rfl, rfl, rfl, rfl⟩, rfl, rfl, by decide, ⟨rfl, rfl, rfl, by decide, by decide⟩⟩

/-- RepairWalksToItsTarget: the target's head, and one with a tail of 0 bytes; a head of a channel below the target and
of one above it; one that is not expected; a silent head read and a silent tail read. -/
theorem witness_repairWalk :
    ((repairingAt (.head repairWalk) 0x8040 18 repairImage).held = false ∧
      (repairingAt (.head repairWalk) 0x8040 18 repairImage).reads
        (Mem.readBytes (Mem.writeBytes [] 0x8040 repairImage) 0x8040 18) ∧
      (silent (repairingAt (.head repairWalk) 0x8040 18 []) 0x8040 18).silentTick
        { address := 0x8040, kind := .read 18, finishing := false, ticks := 24 } ∧
      (silent (repairingAt (.tail repairWalk repairImage) 0x8052 10 []) 0x8052 10).silentTick
        { address := 0x8052, kind := .read 10, finishing := false, ticks := 24 }) ∧
    Mem.readBytes (Mem.writeBytes [] 0x8040 repairImage) 0x8040 18 = repairImage ∧
    (decodeHead repairImage).channel = 42 ∧ 0 < (decodeHead repairImage).labelLen + 5 * (decodeHead repairImage).count ∧
    0 + (18 + ((decodeHead repairImage).labelLen + 5 * (decodeHead repairImage).count)) = repairWalk.header.bodyLength ∧
    (decodeHead smallHead).channel < 42 ∧ (42 : Channel) < (decodeHead (smallHead.set 0 43#8)).channel ∧
    (decodeHead smallHead).channel ≠ repairWalk.expected ∧
    (decodeHead (repairImage.set 4 0#8)).labelLen + 5 * (decodeHead (repairImage.set 4 0#8)).count = 0 ∧
    (decodeHead (repairImage.set 4 0#8)).channel = 42 ∧ 18 ≤ repairWalk.header.bodyLength :=
  ⟨⟨rfl, ⟨_, _, rfl, rfl, rfl, rfl⟩, ⟨rfl, rfl, rfl, by decide, by decide⟩, ⟨rfl, rfl, rfl, by decide, by decide⟩⟩,
    by decide +kernel⟩

/-- RepairTailInstallsOrEnds: the target's tail with all five checks passed, and each of them failing. -/
theorem witness_repairTail :
    let s := repairingAt (.tail repairWalk repairImage) 0x8052 10 smallTail
    (s.reads (Mem.readBytes (Mem.writeBytes [] 0x8052 smallTail) 0x8052 10) ∧ s.isLowestFree 3) ∧
      Mem.readBytes (Mem.writeBytes [] 0x8052 smallTail) 0x8052 10 = smallTail ∧
      imageCrc repairImage smallTail = (decodeHead repairImage).crc ∧ fieldsValid repairImage smallTail = true ∧
      (s.entry 42).binding = .bound 2 ∧ (s.slot 2).state = .suspect ∧
      (decodeHead repairImage).revision = (s.entry 42).revision ∧
      (decodeHead repairImage).count ≤ s.freeCells ∧ imageCrc repairImage (smallTail.set 4 6#8) ≠ 0x37DE#16 ∧
      (bench.slot 2).state ≠ .suspect ∧ (decodeHead smallHead).revision ≠ (s.entry 42).revision ∧
      1 < (decodeHead repairImage).count := by
  refine ⟨⟨⟨_, _, rfl, rfl, rfl, rfl⟩, ?_⟩, by decide +kernel⟩
  unfold State.isLowestFree
  decide +kernel

/-- SetControlWritesTheSelected: selections of 2000h and of 1FFFh; each kind of bad value; every value at an end of its
range; a repair that waits for repair enable. -/
theorem witness_setControl : bench.hears ∧ 8192 ≤ (0x2000#16).toNat ∧ ¬ 8192 ≤ (0x1FFF#16).toNat ∧
    1 < (2#8).toNat ∧ (0#8).toNat = 0 ∧ 8 < (9#8).toNat ∧ 32 ≤ (32#8).toNat ∧ 8 ≤ (8#8).toNat ∧
    (0x1FFF#16).getLsbD 12 = true ∧ controlOk 0x1FFF#16
      { lease := 255#8, step := 0#8, repairEnable := 1#8, laneEnable := Vector.replicate 4 1#8
        threshold := Vector.replicate 4 8#8, reasonMask := 31#8, causeMask := 7#8 } = true ∧
    (after (.setControl 4#16
      { lease := 0#8, step := 0#8, repairEnable := 1#8, laneEnable := Vector.replicate 4 0#8
        threshold := Vector.replicate 4 0#8, reasonMask := 0#8, causeMask := 0#8 }) damaged).ctl =
      .repairing { target := 42, slot := 2, stage := .readA } := by
  refine ⟨bench_hears, ?_⟩
  decide +kernel

/-- ReadControlAndIdentity and ReadStatusReportsAndClearsTheCounter: a state with a channel queued and one outcome of
each kind. -/
theorem witness_readStatus :
    let s : State := { damaged with lastSave := .done .b 9#32 8#32 3 114, lastLoad := .loaded .a 7#32 861#32 1
                                    lastRepair := .installed 42 .b 2#16 3 }
    s.hears ∧ s.repairQueue[0]? = some 42 ∧ s.lastSave = .done .b 9#32 8#32 3 114 ∧
      s.lastLoad = .loaded .a 7#32 861#32 1 ∧ s.lastRepair = .installed 42 .b 2#16 3 :=
  ⟨⟨rfl, rfl, rfl⟩, rfl, rfl, rfl, rfl⟩

/-- RestartKeepsTheTable: an idle controller with the edit set EMPTY, and OPEN with its staged slot pinned; a save, a
repair and a load's header read in progress, one of them with a finishing write on the port; a drain with a lookup in
flight. -/
theorem witness_restart :
    let pinned := after .probeGrant probing
    let waits : Transfer := { address := 64, kind := .write [5#8], finishing := true, ticks := 0 }
    bench.held = false ∧ bench.receiver = .idle ∧ bench.edits = [] ∧ bench.ctl = .idle ∧
    pinned.held = false ∧ pinned.receiver = .idle ∧ pinned.ctl = .idle ∧
    pinned.edits = [{ channel := 41, kind := .replaceCopy, slot := some 3 }] ∧ (pinned.slot 3).pins = 1 ∧
    (pinned.slot 3).state = .staged ∧ (pinned.edits.filterMap Entry.slot).Nodup ∧
    ((after .restart pinned).slot 3).state = .draining ∧ lastPage.edits = [] ∧
    lastPage.port = some { address := 128, kind := .write [1#8, 2#8], finishing := false, ticks := 0 } ∧
    (repairingAt .readA 0 64 []).edits = [] ∧ ({ repairingAt .readA 0 64 [] with port := some waits } : State).portLeft =
      some waits ∧ (loadingAt .readA 0 64 []).edits = [] ∧ LoadStage.readA ≠ LoadStage.drain ∧
    (after .reload inFlight).edits = [] ∧ (after .reload inFlight).context 0 ≠ none := by decide +kernel

/-- A state with an entry open, a lookup in flight and its completion waiting. -/
def busy : State := { committing with pending := [.laneCompletion 0] }

/-- TableLawIsKept: the busy state keeps the law of the record store, and has a command to step. -/
theorem witness_tableLaw : busy.bindingLaw ∧ busy.editLaw ∧ busy.pinLaw ∧ busy.cellLaw ∧ busy.loadLaw ∧ busy.holdLaw ∧
    busy.pending = [.laneCompletion 0] := by
  unfold State.bindingLaw State.editLaw State.pinLaw State.cellLaw State.holdLaw
  refine ⟨?_, ⟨?_, ?_, ?_, ?_⟩, ?_, ?_, ?_, ?_, rfl⟩
  all_goals first
    | decide +kernel
    | (have h : busy.ctl = .idle := by decide +kernel
       unfold State.loadLaw
       rw [h]
       trivial)

/-- TableLawIsKept and DeliveredListsHoldTwoPoints: the busy state is not held; a reset in the middle of its lookup
leaves one that is, with the controller LOADING, and a boot load to step. -/
theorem witness_heldLaw : let held : State := { after (.pinReset []) busy with pending := [.bootLoad false] }
    busy.heldLaw ∧ held.heldLaw ∧ held.held = true ∧ held.isLoading = true := by
  unfold State.heldLaw
  decide +kernel

/-- LaneLawIsKept, ProbeLawIsKept and TimerQueueAndStoreLawsAreKept: the busy state keeps the other laws too. -/
theorem witness_otherLaws : busy.laneLaw ∧ busy.probeLaw ∧ busy.leaseLaw ∧ busy.timerLaw ∧ busy.controlLaw ∧
    busy.queueLaw ∧ busy.storeLaw := by
  have hl : busy.lease = .counting 30#8 0 := by decide +kernel
  have hp : busy.port = none := by decide +kernel
  have hs : busy.probe = .none := by decide +kernel
  unfold State.laneLaw State.probeLaw State.leaseLaw State.timerLaw State.controlLaw State.queueLaw State.storeLaw
  rw [hl, hp, hs]
  refine ⟨?_, ⟨?_, ?_⟩, ⟨?_, ?_⟩, ⟨?_, ?_, ?_⟩, ?_, ⟨?_, ?_, ?_⟩, ?_⟩ <;> decide +kernel

/-- DeliveredListsHoldTwoPoints: the busy state keeps this law too. -/
theorem witness_readLaw : busy.readLaw := by
  have hc : busy.ctl = .idle := by decide +kernel
  have hp : busy.probe = .none := by decide +kernel
  unfold State.readLaw
  rw [hc, hp]
  refine ⟨by decide +kernel, by decide +kernel, by decide +kernel, ?_, trivial⟩
  intro q i h
  cases h

/-- TimerQueueAndStoreLawsAreKept: the damaged bench keeps the law of the record store, and what it has queued is BOUND to
a SUSPECT slot. -/
theorem witness_queuedLaw : damaged.tableLaw ∧ damaged.queuedLaw ∧ damaged.repairQueue = [42] ∧ damaged.ctl = .idle := by
  have hc : damaged.ctl = .idle := rfl
  have hp : ∀ i, (damaged.slot i).pins = damaged.pinCount i ∧ ((damaged.slot i).state = .draining → 1 ≤ (damaged.slot i).pins) ∧
    ((damaged.slot i).state = .free → damaged.slot i = Slot.blank) ∧
    ((damaged.slot i).state = .staged → (damaged.slot i).expired = false) := by decide +kernel
  unfold State.tableLaw State.bindingLaw State.editLaw State.cellLaw State.holdLaw State.loadLaw
  rw [hc]
  refine ⟨⟨?_, ⟨?_, ?_, ?_, ?_⟩, hp, ?_, trivial, ?_⟩, ?_, rfl, rfl⟩
  all_goals first
    | decide +kernel
    | (intro c hm
       have : c = 42 := List.mem_singleton.1 hm
       subst this
       exact ⟨2, by decide +kernel, by decide +kernel⟩)

/-- TimerQueueAndStoreLawsAreKept: a save whose last page is on the port keeps its law, and its target is chosen. -/
theorem witness_saveLaw : lastPage.saveLaw ∧
    (∃ v, lastPage.ctl = .saving v ∧ v.stage.target = some targetA) ∧ lastPage.pending = [] := by
  refine ⟨⟨by decide +kernel, ?_⟩, ⟨_, rfl, rfl⟩, rfl⟩
  intro t ht
  have : t = { address := 128, kind := .write [1#8, 2#8], finishing := false, ticks := 0 } :=
    (Option.mem_some_iff.1 ht).symm
  subst this
  exact ⟨rfl, rfl, _, rfl, by unfold SaveState.bodyLaw; decide⟩

end Sys2Proof.Tests
end

namespace Sys2Proof.Machine

/-! ### What the laws of the record store, of the probe and of the lists read speak of -/

/-- The part of a state that these laws speak of: the table, the edit set, the lookups, the load, the port and the
pending probe. -/
structure View where
  map       : Vector MapEntry 256
  slots     : Vector Slot 128
  freeCells : Nat
  edits     : List Entry
  contexts  : Vector (Option Lookup) 4
  hold      : Bool
  held      : Bool
  ctl       : Controller
  port      : Option Transfer
  probe     : Probe
  status    : Status

/-- The view of a state. -/
def State.view (s : State) : View :=
  { map := s.map, slots := s.slots, freeCells := s.freeCells, edits := s.edits, contexts := s.contexts, hold := s.hold,
    held := s.held, ctl := s.ctl, port := s.port, probe := s.probe, status := s.response.status }

/-- Two states of one view read alike in each of its fields. -/
theorem State.view_eq_iff (s t : State) :
    t.view = s.view ↔
      t.map = s.map ∧ t.slots = s.slots ∧ t.freeCells = s.freeCells ∧ t.edits = s.edits ∧ t.contexts = s.contexts ∧
        t.hold = s.hold ∧ t.held = s.held ∧ t.ctl = s.ctl ∧ t.port = s.port ∧ t.probe = s.probe ∧
        t.response.status = s.response.status := by
  simp [State.view]

/-- The head that an operation in its tail stage keeps (R165, R183). -/
def Controller.tailHead : Controller → Option (List Byte)
  | .loading { stage := .tail _ head, .. } => some head
  | .repairing { stage := .tail _ head, .. } => some head
  | _ => none

/-- The transfer at the port fits the operation: in a tail stage the operation's own transfer is one read of the length
that the head gives (R165). -/
def Controller.fits (c : Controller) (port : Option Transfer) : Prop :=
  ∀ head ∈ c.tailHead, ∀ t ∈ port, t.finishing = false → t.kind = .read (decodeHead head).tailLength

/-- Outside the tail stages every transfer fits. -/
theorem Controller.fits_of_no_tail {c : Controller} (h : c.tailHead = none) (p : Option Transfer) : c.fits p := by
  simp [Controller.fits, h]

/-- A free port fits every operation. -/
@[simp] theorem Controller.fits_none (c : Controller) : c.fits none := by simp [Controller.fits]

/-- What a dropped transfer leaves at the port fits every operation: nothing, or a finishing write (R144). -/
theorem State.fits_portLeft (s : State) (c : Controller) : c.fits s.portLeft := by
  intro head _ t ht hf
  unfold State.portLeft at ht
  cases hp : s.port with
  | none => simp [hp] at ht
  | some p =>
    rw [hp] at ht
    cases hpf : p.finishing with
    | true =>
      simp only [hpf, if_true, Option.mem_def, Option.some.injEq] at ht
      rw [← ht, hpf] at hf
      cases hf
    | false =>
      cases hk : p.kind with
      | read n => simp [hpf, hk] at ht
      | write data =>
        simp only [hpf, hk, Bool.false_eq_true, if_false, Option.mem_def, Option.some.injEq] at ht
        rw [← ht] at hf
        cases hf

/-- Where a load goes from one stage to the next without an install (R164, R165): the first header is judged, an image
is chosen, a head is read, and the walk goes on with the channels after the expected one. -/
inductive LoadStage.Next : LoadStage → LoadStage → Prop
  | header {found : Option Header} : (∀ h ∈ found, h.sound) → LoadStage.Next .readA (.readB found)
  | choose {a b : Option Header} {area : Area} {h : Header} {w : Walk} :
      newest a b = some (area, h) → (∀ h ∈ b, h.sound) → w.expected :: w.later = h.presence →
        LoadStage.Next (.readB a) (.head w)
  | head {w : Walk} {head : List Byte} : headTrusted w (decodeHead head) = true → LoadStage.Next (.head w) (.tail w head)
  | on {st : LoadStage} {w w' : Walk} : st.walk = some w → w'.expected :: w'.later = w.later → LoadStage.Next st (.head w')

/-- A walk past its expected channel: the load goes on with the next one, or ends with the hold cleared (R165, R171). -/
inductive Walk.Goes (w : Walk) (s : State) : Controller → Bool → Prop
  | on {w' : Walk} {installed lost : Nat} : w'.expected :: w'.later = w.later →
      Walk.Goes w s (.loading { stage := .head w', installed, lost }) s.hold
  | ends : s.held = false → Walk.Goes w s .idle false

/-- The head of the record that a load has in hand: just read and trusted, or kept by the tail stage. -/
def LoadStage.hasHead (st : LoadStage) (w : Walk) (head : List Byte) : Prop :=
  (st = .head w ∧ headTrusted w (decodeHead head) = true) ∨ st = .tail w head

/-- One elementary change of the record store, of the edit set or of the operation in progress, with what its code
checks. `s₀` is the state that the step began in: a slot taken was FREE there, and a tail read had there the transfer
that the port held. -/
inductive Move (s₀ : State) : State → State → Prop
  | quiet {s t : State} : t.view = s.view → Move s₀ s t
  | work {s : State} {c : Controller} {p : Option Transfer} : (∀ l, s.ctl ≠ .loading l) → (∀ l, c ≠ .loading l) →
      (s.ctl.fits s.port → c.fits p) → Move s₀ s { s with ctl := c, port := p }
  | port {s : State} {p : Option Transfer} : (s.ctl.fits s.port → s.ctl.fits p) → Move s₀ s { s with port := p }
  | drain {s : State} : (s.edits = [] ∨ s.held = true) →
      Move s₀ s { s with held := false, ctl := .loading { stage := .drain, installed := 0, lost := 0 }, hold := true }
  | clear {s : State} {l : LoadState} : s.ctl = .loading l → (l.stage = .drain → s.drained = true) → Move s₀ s s.cleared
  | load {s : State} {l l' : LoadState} {p : Option Transfer} : s.ctl = .loading l → l.stage.Next l'.stage →
      (Controller.loading l').fits p → Move s₀ s { s with ctl := .loading l', port := p }
  | endLoad {s : State} {l : LoadState} : s.ctl = .loading l → s.held = false →
      Move s₀ s { s with ctl := .idle, hold := false }
  | lose {s : State} {l : LoadState} {w : Walk} {c : Channel} {revision : Half} : s.ctl = .loading l →
      l.stage.walk = some w → c ∈ w.expected :: w.later → Move s₀ s (s.markLost c revision)
  | install {s : State} {l : LoadState} {w : Walk} {i : SlotIdx} {head tail : List Byte} {c : Controller} {hold : Bool}
      {p : Option Transfer} :
      s.ctl = .loading l → l.stage.hasHead w head → fieldsValid head tail = true →
      (s₀.ctl.fits s₀.port → tail.length = (decodeHead head).tailLength) →
      s.room (decodeHead head).count = some i → (s₀.slot i).state = .free → w.Goes s c hold → c.fits p →
      Move s₀ s { s.loadInstall i (decodeRecord head tail) with ctl := c, hold := hold, port := p }
  | opened {s : State} {c : Channel} {kind : EditKind} {taken : Option (SlotIdx × Content)} : (∀ l, s.ctl ≠ .loading l) →
      s.probe = .none → s.findEdit c = none → s.edits.length < Config.maxEdits → (kind = .retire ↔ taken = none) →
      (∀ p ∈ taken, s.lowestFree = some p.1 ∧ (s₀.slot p.1).state = .free ∧ p.2.points.length ≤ s.freeCells ∧
        (p.2 = stagedContent c none ∨ ∃ j, p.2 = stagedContent c (some (s.slot j).content))) →
      Move s₀ s (s.openEntry c kind taken).state
  | stage {s : State} {e : Entry} {i : SlotIdx} {content : Content} {cells : Nat} : s.probe = .none → e ∈ s.edits →
      e.slot = some i →
      cells + content.points.length = s.freeCells + (s.slot i).content.points.length →
      ((s.slot i).content.stated = true → content.stated = true) →
      Move s₀ s { s.setSlot i { s.slot i with content } with freeCells := cells }
  | discard {s : State} {e : Entry} {rest : List Entry} : s.edits.Perm (e :: rest) →
      Move s₀ s { s.discard e with edits := rest }
  | commit {s : State} : s.probe = .none → (∀ e ∈ s.edits, s.validateEntry e = none) →
      Move s₀ s { s.edits.foldl State.applyEntry s with edits := [] }
  | mismatch {s : State} {i : SlotIdx} : (s.slot i).state = .active → Move s₀ s (s.mismatch i)
  | sweep {s : State} : Move s₀ s s.sweep
  | upset {s : State} {i : SlotIdx} {content : Content} : Move s₀ s (s.upset i content)
  | repair {s : State} {r : RepairState} {i : SlotIdx} {head tail : List Byte} : s.ctl = .repairing r →
      s.boundSlot r.target = some r.slot → (s.slot r.slot).state = .suspect → fieldsValid head tail = true →
      (s₀.ctl.fits s₀.port → tail.length = (decodeHead head).tailLength) →
      s.room (decodeHead head).count = some i → (s₀.slot i).state = .free →
      Move s₀ s (s.repairInstall r i (decodeRecord head tail))

/-- A sequence of such changes. -/
abbrev Moves (s₀ : State) : State → State → Prop := Relation.ReflTransGen (Move s₀)

/-- A lookup ends: its slot is unpinned and its context free, before the drain of a load is looked at (R101). -/
def State.endLookup (s : State) (k : CtxIdx) (l : Lookup) : State :=
  State.setContext (match l.pinned with
    | some i => s.unpin i
    | none => s) k none

/-- What a grant may pin: nothing, the slot a channel is BOUND to, or for the waiting STAGED probe the slot it was
accepted for, while an entry still names it (R38, R100, R107). -/
def State.mayPin (s : State) (l : Lookup) : Prop :=
  l.pinned = none ∨ (∃ c, s.boundSlot c = l.pinned) ∨
    l.requester = .host ∧ ∃ q, s.probe = .waiting q ∧ q.staged = l.pinned ∧ ∃ e ∈ s.edits, e.slot = l.pinned

/-- One elementary change of the lookups in flight, of the pending probe or of the response buffer, and the resets. A grant meets the
slots as the step began with them. -/
inductive Turn (s₀ : State) : State → State → Prop
  | laneGrant {s : State} {k : CtxIdx} {l : Lookup} {n : LaneIdx} : s.slots = s₀.slots → s.hold = false → s.context k = none →
      l.drop = false → l.requester = .lane n → s.mayPin l → Turn s₀ s (s.begin k l)
  | probeGrant {s : State} {k : CtxIdx} {l : Lookup} {q : ProbeRequest} : s.slots = s₀.slots → s.hold = false →
      s.context k = none → l.drop = false → l.requester = .host → s.probe = .waiting q → s.mayPin l →
      Turn s₀ s { s.begin k l with probe := .inFlight }
  | lookupEnd {s : State} {k : CtxIdx} {l : Lookup} : s.context k = some l → (l.requester = .host → l.drop = true) →
      Turn s₀ s (s.endLookup k l)
  | probeEnd {s : State} {k : CtxIdx} {l : Lookup} {r : Response} : s.context k = some l → l.requester = .host →
      l.drop = false → r.status ≠ .pending → Turn s₀ s { s.endLookup k l with probe := .none, response := r }
  | answer {s : State} {r : Response} : s.probe = .none → r.status ≠ .pending → Turn s₀ s { s with response := r }
  | accept {s : State} {q : ProbeRequest} {r : Response} : s.probe = .none → r.status = .pending →
      (∀ i, q.staged = some i → 2 ≤ (s.slot i).content.points.length) →
      Turn s₀ s { s with probe := .waiting q, response := r }
  | withdraw {s : State} {q : ProbeRequest} {r : Response} : s.probe = .waiting q → r.status ≠ .pending →
      Turn s₀ s { s with probe := .none, response := r }
  | drop {s : State} {contexts : Vector (Option Lookup) 4} {r : Response} :
      (∀ k, contexts.get k = (s.context k).map (fun l => { l with drop := true }) ∨
        contexts.get k = s.context k ∧ ∀ l ∈ s.context k, l.requester ≠ .host) →
      r.status ≠ .pending → Turn s₀ s { s with contexts := contexts, probe := .none, response := r }
  | reset {s t : State} : t.view = State.reset.view → Turn s₀ s t

/-- What a step is made of: a sequence of moves and turns. -/
abbrev Run (s₀ : State) : State → State → Prop := Relation.ReflTransGen fun s t => Move s₀ s t ∨ Turn s₀ s t

end Sys2Proof.Machine

namespace Sys2Proof.Machine

/-! ### What the shared operations do to the view -/

/-- A load's install, in the view: the raise of EXPIRED is outside it (R168). -/
theorem State.loadInstall_view (s : State) (i : SlotIdx) (content : Content) :
    (s.loadInstall i content).view =
      State.view { (s.setSlot i (installedSlot content (dueBy s.partTime content))).setEntry content.channel
        { binding := .bound i, revision := content.revision } with
        freeCells := s.freeCells - content.points.length } := by
  unfold State.loadInstall
  cases dueBy s.partTime content <;> rfl

/-- A mismatch, in the view: the slot is SUSPECT (R176). -/
theorem State.mismatch_view (s : State) (i : SlotIdx) :
    (s.mismatch i).view = (s.setSlot i { s.slot i with state := .suspect }).view := by
  unfold State.mismatch
  simp only [State.queueRepair_eq]
  cases State.channelOf { s.setSlot i { s.slot i with state := .suspect } with
    mismatches := min 255 (s.mismatches + 1) } i <;> rfl

/-- A discarded entry touches the slots and the pool alone (R11). -/
theorem State.discard_eq (s : State) (e : Entry) :
    s.discard e = { s with slots := (s.discard e).slots, freeCells := (s.discard e).freeCells } := by
  unfold State.discard
  cases e.slot with
  | none => rfl
  | some i => simp only [State.release_eq]; rfl

/-- The superseding of a channel's record touches the slots and the pool alone (R13). -/
theorem State.supersede_eq (s : State) (c : Channel) :
    s.supersede c = { s with slots := (s.supersede c).slots, freeCells := (s.supersede c).freeCells } := by
  unfold State.supersede
  cases s.boundSlot c with
  | none => rfl
  | some i => simp only [State.release_eq]; rfl

/-- What an accepted commit does for one entry touches the table, the reasons and the repair queue alone (R75 to R80). -/
theorem State.applyEntry_eq (s : State) (e : Entry) :
    s.applyEntry e =
      { s with
        map := (s.applyEntry e).map, slots := (s.applyEntry e).slots, freeCells := (s.applyEntry e).freeCells
        reasons := (s.applyEntry e).reasons, repairQueue := (s.applyEntry e).repairQueue } := by
  unfold State.applyEntry
  rw [State.supersede_eq]
  cases e.slot <;> rfl

/-- So does what it does for all of them. -/
theorem State.applyAll_eq (es : List Entry) (s : State) :
    es.foldl State.applyEntry s =
      { s with
        map := (es.foldl State.applyEntry s).map, slots := (es.foldl State.applyEntry s).slots
        freeCells := (es.foldl State.applyEntry s).freeCells, reasons := (es.foldl State.applyEntry s).reasons
        repairQueue := (es.foldl State.applyEntry s).repairQueue } := by
  induction es generalizing s with
  | nil => rfl
  | cons e es ih =>
    rw [List.foldl_cons, ih, State.applyEntry_eq]

/-- A grant touches the slots and its context alone (R14, R95). -/
theorem State.begin_eq (s : State) (k : CtxIdx) (l : Lookup) :
    s.begin k l = { s.setContext k (some l) with slots := (s.begin k l).slots } := by
  unfold State.begin
  cases l.pinned <;> rfl

/-- The end of a lookup touches the slots, the pool and its context alone (R101). -/
theorem State.endLookup_eq (s : State) (k : CtxIdx) (l : Lookup) :
    s.endLookup k l =
      { s.setContext k none with slots := (s.endLookup k l).slots, freeCells := (s.endLookup k l).freeCells } := by
  unfold State.endLookup
  cases l.pinned with
  | none => rfl
  | some i => simp only [State.unpin_eq]; rfl

section
variable {s₀ s t u : State}

/-! ### Sequences of moves -/

/-- A sequence of moves may end in any state of the same view. -/
theorem Moves.to_view (h : Moves s₀ s t) (e : u.view = t.view) : Moves s₀ s u := h.tail (.quiet e)

/-- States of one view. -/
theorem Moves.of_view (e : t.view = s.view) : Moves s₀ s t := .single (.quiet e)

/-- One move, up to the view. -/
theorem Move.to_view (h : Move s₀ s t) (e : u.view = t.view) : Moves s₀ s u :=
  Moves.to_view (.single h) e

/-- A sequence of moves is a run. -/
theorem Moves.run (h : Moves s₀ s t) : Run s₀ s t := Relation.ReflTransGen.mono (fun _ _ => .inl) _ _ h

/-- A turn is a run. -/
theorem Turn.run (h : Turn s₀ s t) : Run s₀ s t := .single (.inr h)

/-- A turn after a run. -/
theorem Run.turn (h : Run s₀ s t) (h' : Turn s₀ t u) : Run s₀ s u := h.tail (.inr h')

/-- Moves after a run. -/
theorem Run.moves (h : Run s₀ s t) (h' : Moves s₀ t u) : Run s₀ s u := h.trans h'.run

/-- What every move and every turn keeps, a run keeps. -/
theorem Run.keeps {inv : State → Prop} (h : Run s₀ s t) (hs : inv s)
    (move : ∀ a b, Move s₀ a b → inv a → inv b) (turn : ∀ a b, Turn s₀ a b → inv a → inv b) : inv t := by
  induction h with
  | refl => exact hs
  | tail _ h ih => exact h.elim (fun h => move _ _ h ih) (fun h => turn _ _ h ih)

/-! ### The parts of a view that the moves keep -/

/-- States of one view have the same lookups, the same probe and the same status in the buffer. -/
theorem engine_of_view (e : t.view = s.view) :
    t.contexts = s.contexts ∧ t.probe = s.probe ∧ t.response.status = s.response.status :=
  ⟨congrArg View.contexts e, congrArg View.probe e, congrArg View.status e⟩

/-- A move does not touch the lookups, the probe and the buffer's status. -/
theorem Move.engine_eq (h : Move s₀ s t) :
    t.contexts = s.contexts ∧ t.probe = s.probe ∧ t.response.status = s.response.status := by
  cases h with
  | quiet e => exact engine_of_view e
  | @install l w i head tail => have := engine_of_view (s.loadInstall_view i (decodeRecord head tail)); exact this
  | @opened c kind taken => cases taken <;> exact ⟨rfl, rfl, rfl⟩
  | @discard e => rw [s.discard_eq e]; exact ⟨rfl, rfl, rfl⟩
  | commit => rw [State.applyAll_eq]; exact ⟨rfl, rfl, rfl⟩
  | @mismatch i => have := engine_of_view (s.mismatch_view i); exact this
  | upset => unfold State.upset; split <;> exact ⟨rfl, rfl, rfl⟩
  | repair => simp [State.repairInstall, State.release_eq]
  | _ => exact ⟨rfl, rfl, rfl⟩

/-- A sequence of moves does not touch the lookups, the probe and the buffer's status. -/
theorem Moves.engine_eq (h : Moves s₀ s t) :
    t.contexts = s.contexts ∧ t.probe = s.probe ∧ t.response.status = s.response.status := by
  induction h with
  | refl => exact ⟨rfl, rfl, rfl⟩
  | tail _ h ih =>
    obtain ⟨a1, a2, a3⟩ := ih
    obtain ⟨b1, b2, b3⟩ := h.engine_eq
    exact ⟨b1.trans a1, b2.trans a2, b3.trans a3⟩
end

end Sys2Proof.Machine

namespace Sys2Proof.Machine

section
variable {s₀ s t u : State}

/-- The lowest FREE slot is FREE. -/
theorem State.free_of_lowestFree {i : SlotIdx} (h : s.lowestFree = some i) : (s.slot i).state = .free := by
  simpa using List.find?_some h

/-! ### The store port and the operations -/

/-- A transfer that is dropped, or none, always fits (R144). -/
theorem State.dropTransfer_moves (s : State) : Moves s₀ s s.dropTransfer := by
  rw [State.dropTransfer_eq]
  exact .single (.port fun _ => s.fits_portLeft s.ctl)

/-- The port becomes free. -/
theorem State.portNone_moves (s : State) : Moves s₀ s { s with port := none } :=
  .single (.port fun _ => Controller.fits_none _)

/-- The first transfer of an operation meets no tail stage (R144). -/
theorem State.issueDeferred_moves (s : State) : Moves s₀ s s.issueDeferred := by
  unfold State.issueDeferred
  split
  case isFalse => exact .refl
  case isTrue h =>
    rw [State.issueFirst_eq]
    refine .single (.port fun _ => Controller.fits_of_no_tail ?_ _)
    obtain ⟨v, hc, hs⟩ | ⟨⟨st, m, n⟩, hc, hs⟩ | ⟨⟨c, i, st⟩, hc, hs⟩ := (Controller.atFirstTransfer_iff _).1 h
    · rw [hc]; rfl
    · cases hs; rw [hc]; rfl
    · cases hs; rw [hc]; rfl

/-- A repair's start is work of an IDLE controller (R181). -/
theorem State.startRepair_moves (s : State) : Moves s₀ s s.startRepair := by
  rw [State.startRepair_eq]
  obtain h | ⟨c, i, rest, hi, -, -, -, h⟩ := s.withRepair_cases
  · have h := h s.scrubCount
    rw [h]
  · have h := h s.scrubCount
    rw [h]
    exact (Move.work (by simp [hi]) (by simp) fun _ => Controller.fits_of_no_tail rfl _).to_view rfl

/-- A sequence of moves may begin in any state of the same view. -/
theorem Moves.after (h : Moves s₀ t u) (e : t.view = s.view) : Moves s₀ s u := .head (.quiet e) h

/-- The next repair may start where an operation has ended (R146). -/
theorem Moves.startRepair (h : Moves s₀ s t) (e : u.view = t.view) : Moves s₀ s u.startRepair :=
  (Moves.to_view h e).trans (State.startRepair_moves u)

/-- An operation other than a load goes on or ends. -/
theorem Moves.work {c : Controller} {p : Option Transfer} (hs : ∀ l, s.ctl ≠ .loading l) (hc : ∀ l, c ≠ .loading l)
    (hf : c.fits p) (e : t.view = State.view { s with ctl := c, port := p }) : Moves s₀ s t :=
  (Move.work hs hc fun _ => hf).to_view e

/-- An operation other than a load ends, and the next repair may start (R146). -/
theorem State.idle_moves (hs : ∀ l, s.ctl ≠ .loading l) (e : t.view = State.view { s with ctl := .idle }) :
    Moves s₀ s t.startRepair :=
  Moves.startRepair (Moves.work hs (by simp) (Controller.fits_of_no_tail rfl s.port) rfl) e

/-- The end of a save (R152). -/
theorem State.endSave_moves (hs : ∀ l, s.ctl ≠ .loading l) (o : SaveOutcome) : Moves s₀ s (s.endSave o) :=
  State.idle_moves hs rfl

/-- The end of a repair (R186). -/
theorem State.endRepair_moves (hs : ∀ l, s.ctl ≠ .loading l) (o : RepairOutcome) : Moves s₀ s (s.endRepair o) :=
  State.idle_moves hs rfl

/-- The end of a load (R171). -/
theorem State.endLoad_moves {l : LoadState} (hc : s.ctl = .loading l) (hh : s.held = false) (o : LoadOutcome)
    (epoch : Word) : Moves s₀ s (s.endLoad o epoch) :=
  Moves.startRepair (.single (.endLoad hc hh)) rfl

/-- A drain that ends clears the table (R163). -/
theorem State.endDrain_moves (s : State) : Moves s₀ s s.endDrain := by
  unfold State.endDrain
  split
  case h_1 l hc =>
    split
    case isTrue h =>
      rw [State.beginHeaders_eq]
      exact .single (.clear hc fun _ => h.2)
    case isFalse => exact .refl
  case h_2 => exact .refl

/-! ### A save -/

/-- A save goes on. -/
theorem Moves.saving {v v' : SaveState} {p : Option Transfer} (hc : s.ctl = .saving v)
    (e : t.view = State.view { s with ctl := .saving v', port := p }) : Moves s₀ s t :=
  .work (by simp [hc]) (by simp) (Controller.fits_of_no_tail rfl p) e

/-- A page that cannot be filled names a slot that was ACTIVE when it was checked (R150). -/
theorem State.fillPage_corrupt (s : State) (cs : List Channel) (p : Page) (c : Channel) (i : SlotIdx)
    (h : s.fillPage cs p = .corrupt c (some i)) : (s.slot i).state = .active := by
  induction cs generalizing p with
  | nil => cases h
  | cons d cs ih =>
    unfold State.fillPage at h
    split at h
    case isTrue => cases h
    case isFalse =>
      split at h
      case h_1 => exact ih _ h
      case h_2 j hj =>
        simp only at h
        split at h
        case isTrue => cases h
        case isFalse ha =>
          split at h
          case isTrue => cases h; simpa using ha
          case isFalse => exact ih _ h

/-- An assembly event (R149, R150). -/
theorem State.assemble_moves {v : SaveState} (hc : s.ctl = .saving v) (g : Target) (v' : SaveState) :
    Moves s₀ s (s.assemble g v') := by
  unfold State.assemble
  split
  case h_1 c found hp =>
    cases found with
    | none => exact State.endSave_moves (by simp [hc]) _
    | some i =>
      have hi := State.fillPage_corrupt _ _ _ _ _ hp
      refine .head (.mismatch hi) (State.endSave_moves ?_ _)
      rw [show (s.mismatch i).ctl = s.ctl from congrArg View.ctl (s.mismatch_view i)]
      simp [hc]
  case h_2 p hp =>
    split
    case isTrue => exact .saving hc rfl
    case isFalse => exact .saving hc rfl

/-- A page write's completion frees the port (R142). -/
theorem State.writeDone_moves {s1 : State} (h : s.writeDone = some s1) : Moves s₀ s s1 ∧ s1.ctl = s.ctl := by
  unfold State.writeDone at h
  split at h
  case h_1 => cases h; exact ⟨(State.portNone_moves s).to_view rfl, rfl⟩
  case h_2 => cases h

/-- A header read of a save's first phase moves the save alone. -/
theorem State.saveHeaderRead_moves (s : State) : Moves s₀ s s.saveHeaderRead := by
  unfold State.saveHeaderRead
  split
  case h_1 v bytes hc hr =>
    split
    case h_1 => exact .saving hc rfl
    case h_2 => exact .saving hc rfl
    case h_3 => exact .refl
  case h_2 => exact .refl

/-- The invalidation of the target moves the save alone. -/
theorem State.invalidateDone_moves (s : State) : Moves s₀ s s.invalidateDone := by
  unfold State.invalidateDone
  split
  case h_1 v s1 hc hw =>
    obtain ⟨hm, he⟩ := State.writeDone_moves (s₀ := s₀) hw
    split
    case h_1 => exact hm.trans (State.assemble_moves (he.trans hc) _ _)
    case h_2 => exact .refl
  case h_2 => exact .refl

/-- A body page moves the save alone. -/
theorem State.bodyDone_moves (s : State) : Moves s₀ s s.bodyDone := by
  unfold State.bodyDone
  split
  case h_1 v s1 hc hw =>
    obtain ⟨hm, he⟩ := State.writeDone_moves (s₀ := s₀) hw
    split
    case h_1 => exact hm.trans (State.assemble_moves (he.trans hc) _ _)
    case h_2 => exact .refl
  case h_2 => exact .refl

/-- The header page moves the save alone. -/
theorem State.headerDone_moves (s : State) : Moves s₀ s s.headerDone := by
  unfold State.headerDone
  split
  case h_1 v s1 hc hw =>
    obtain ⟨hm, he⟩ := State.writeDone_moves (s₀ := s₀) hw
    split
    case h_1 => exact hm.trans (Moves.saving (he.trans hc) rfl)
    case h_2 => exact .refl
  case h_2 => exact .refl

/-- The marker page ends the save, and a repair may start. -/
theorem State.markerDone_moves (s : State) : Moves s₀ s s.markerDone := by
  unfold State.markerDone
  split
  case h_1 v s1 hc hw =>
    obtain ⟨hm, he⟩ := State.writeDone_moves (s₀ := s₀) hw
    split
    case h_1 => exact hm.trans (State.endSave_moves (by simp [he, hc]) _)
    case h_2 => exact .refl
  case h_2 => exact .refl

/-- A port that is freed takes the read that waits for it. -/
theorem State.portFreed_moves (s : State) : Moves s₀ s s.portFreed :=
  (State.portNone_moves s).trans (State.issueDeferred_moves _)

/-- A finishing write that completes frees the port. -/
theorem State.finishingDone_moves (s : State) : Moves s₀ s s.finishingDone := by
  unfold State.finishingDone
  split
  case h_1 => exact Moves.after (State.portFreed_moves _) rfl
  case h_2 => exact .refl

/-! ### A load -/

/-- Where a walk goes on with these channels the next head is read, and with none left the load ends (R165, R171). -/
theorem State.walkOn_moves {channels : List Channel}
    (hon : ∀ w' p m n, w'.expected :: w'.later = channels →
      Moves s₀ s { t with ctl := .loading { stage := .head w', installed := m, lost := n }, port := p })
    (hend : channels = [] → Moves s₀ s { t with ctl := .idle, hold := false }) (area : Area) (h : Header)
    (offset installed lost : Nat) : Moves s₀ s (t.walkOn area h channels offset installed lost) := by
  cases channels with
  | nil => exact Moves.startRepair (hend rfl) rfl
  | cons c later => exact hon { area, header := h, expected := c, later, offset } _ _ _ rfl

/-- The loss of channels that a walk has still to read (R166). -/
theorem State.loseAll_moves {l : LoadState} {w : Walk} (cs : List Channel) (hl : l.stage.walk = some w)
    (hcs : ∀ c ∈ cs, c ∈ w.expected :: w.later) (s : State) (hc : s.ctl = .loading l) (hh : s.held = false) :
    let t := cs.foldl (fun s c => s.markLost c 0#16) s
    Moves s₀ s t ∧ t.ctl = .loading l ∧ t.held = false := by
  induction cs generalizing s with
  | nil => exact ⟨.refl, hc, hh⟩
  | cons c cs ih =>
    obtain ⟨h1, h2, h3⟩ := ih (fun d hd => hcs d (by simp [hd])) (s.markLost c 0#16) hc hh
    exact ⟨.head (.lose hc hl (hcs c (by simp))) h1, h2, h3⟩

/-- The end of a load that loses the rest of its walk (R166, R170). -/
theorem State.loseRest_moves {l : LoadState} {w : Walk} (hc : s.ctl = .loading l) (hl : l.stage.walk = some w)
    (hh : s.held = false) (o : LoadOutcome) (epoch : Word) : Moves s₀ s ((s.loseRest w).endLoad o epoch) := by
  obtain ⟨h1, h2, h3⟩ := State.loseAll_moves (w.expected :: w.later) hl (fun c h => h) s hc hh
  exact h1.trans (State.endLoad_moves h2 h3 _ _)

/-- The head in hand is one of the walk. -/
theorem LoadStage.hasHead.walk {st : LoadStage} {w : Walk} {head : List Byte} (h : st.hasHead w head) :
    st.walk = some w := by
  obtain ⟨rfl, -⟩ | rfl := h <;> rfl

/-- A head stage fits every transfer. -/
theorem fits_loading_head (w : Walk) (m n : Nat) (p : Option Transfer) :
    (Controller.loading { stage := .head w, installed := m, lost := n }).fits p :=
  Controller.fits_of_no_tail rfl p

/-- A walk that goes on without an install (R165, R171). -/
theorem State.walkOn_moves_of {l : LoadState} {w : Walk} (hc : s.ctl = .loading l) (hl : l.stage.walk = some w)
    (hh : s.held = false) (area : Area) (h : Header) (offset installed lost : Nat) :
    Moves s₀ s (s.walkOn area h w.later offset installed lost) :=
  State.walkOn_moves (fun _ p _ _ hw => .single (.load hc (.on hl hw) (fits_loading_head _ _ _ p)))
    (fun _ => .single (.endLoad hc hh)) area h offset installed lost

/-- Room for a record is a FREE slot (R8, R21). -/
theorem State.room_free {cells : Nat} {i : SlotIdx} (h : s.room cells = some i) :
    cells ≤ s.freeCells ∧ (s.slot i).state = .free := by
  unfold State.room at h
  split at h
  case isTrue hc => exact ⟨hc, State.free_of_lowestFree h⟩
  case isFalse => cases h

/-- The tail of the expected record has been read (R166 to R168). -/
theorem State.loadTail_moves {l : LoadState} {w : Walk} {head tail : List Byte} (hc : s.ctl = .loading l)
    (hl : l.stage.hasHead w head) (hh : s.held = false) (hs : s.slots = s₀.slots)
    (ht : s₀.ctl.fits s₀.port → tail.length = (decodeHead head).tailLength) :
    Moves s₀ s (s.loadTail l w head tail) := by
  have lose : Moves s₀ s ((s.markLost w.expected (decodeHead head).revision).walkOn w.area w.header w.later
      (w.offset + (decodeHead head).size) l.installed (l.lost + 1)) :=
    .head (.lose hc hl.walk (by simp)) (State.walkOn_moves_of (s := s.markLost _ _) hc hl.walk hh _ _ _ _ _)
  unfold State.loadTail
  simp only
  split
  case isTrue => exact State.loseRest_moves hc hl.walk hh _ _
  case isFalse =>
    split
    case isTrue => exact lose
    case isFalse hv =>
      split
      case h_1 => exact lose
      case h_2 i hi =>
        have hv : fieldsValid head tail = true := by simpa using hv
        have hf : (s₀.slot i).state = .free := by
          rw [show s₀.slot i = s.slot i by simp [State.slot, hs]]
          exact (State.room_free hi).2
        have e1 : (s.loadInstall i (decodeRecord head tail)).hold = s.hold :=
          congrArg View.hold (s.loadInstall_view i _)
        refine State.walkOn_moves (fun w' p m n hw => ?_) (fun hw => ?_) _ _ _ _ _
        · have := Move.install hc hl hv ht hi hf (.on (installed := m) (lost := n) hw) (fits_loading_head w' m n p)
          rw [← e1] at this
          exact .single this
        · exact (Move.install hc hl hv ht hi hf (Walk.Goes.ends hh)
            (Controller.fits_of_no_tail rfl (s.loadInstall i (decodeRecord head tail)).port)).to_view rfl

/-- The head of the expected record has been read (R165). -/
theorem State.loadHead_moves {l : LoadState} {w : Walk} (hc : s.ctl = .loading l) (hl : l.stage = .head w)
    (hh : s.held = false) (hs : s.slots = s₀.slots) (head : List Byte) : Moves s₀ s (s.loadHead l w head) := by
  have hw : l.stage.walk = some w := by rw [hl]; rfl
  unfold State.loadHead
  simp only
  split
  case isTrue => exact State.loseRest_moves hc hw hh _ _
  case isFalse ht =>
    have ht : headTrusted w (decodeHead head) = true := by simpa using ht
    split
    case isTrue h0 => exact State.loadTail_moves hc (.inl ⟨hl, ht⟩) hh hs fun _ => h0.symm
    case isFalse =>
      refine (Move.load (l' := { l with stage := .tail w head }) (p := some
        { address := w.address + 18, kind := .read (decodeHead head).tailLength, finishing := false, ticks := 0 })
        hc (by rw [hl]; exact .head ht) ?_).to_view rfl
      intro h hh t ht _
      cases hh
      cases ht
      rfl

/-- The channels that a header marks are all different (R206). -/
theorem parseHeader_sound (bs : List Byte) : ∀ h ∈ parseHeader bs, h.sound := by
  intro h hh
  unfold parseHeader at hh
  simp only at hh
  split at hh
  case isTrue =>
    cases hh
    exact List.Nodup.filter (fun c : Channel => (byteAt ((bs.drop 18).take 32) (c.val / 8)).getLsbD (7 - c.val % 8))
      (List.nodup_finRange 256)
  case isFalse => cases hh

/-- What follows when a header of a load has been judged (R164). -/
theorem State.loadHeader_moves {l : LoadState} (hc : s.ctl = .loading l) (hh : s.held = false) (found : Option Header)
    (hf : ∀ h ∈ found, h.sound) : Moves s₀ s (s.loadHeader l found) := by
  unfold State.loadHeader
  split
  case h_1 hl =>
    exact (Move.load (l' := { l with stage := .readB found }) hc (by rw [hl]; exact .header hf)
      (Controller.fits_of_no_tail rfl _)).to_view rfl
  case h_2 a hl =>
    unfold State.chooseImage
    split
    case h_1 => exact State.endLoad_moves hc hh _ _
    case h_2 area h hn =>
      exact State.walkOn_moves
        (fun w p m n hw => .single (.load hc (by rw [hl]; exact .choose hn hf hw) (fits_loading_head w m n p)))
        (fun _ => .single (.endLoad hc hh)) _ _ _ _ _
  case h_3 => exact .refl

/-- A header read moves the load on, or finds no image and ends it. -/
theorem State.loadHeaderRead_moves (hh : s.held = false) : Moves s₀ s s.loadHeaderRead := by
  unfold State.loadHeaderRead
  split
  case h_1 l bytes hc hr =>
    split
    case isTrue =>
      exact (State.portNone_moves s).trans
        (State.loadHeader_moves (s := { s with port := none }) hc hh _ (parseHeader_sound bytes))
    case isFalse => exact .refl
  case h_2 => exact .refl

/-- A record's head is trusted and its tail read, or its channel is lost. -/
theorem State.loadHeadRead_moves (hh : s.held = false) (hs : s.slots = s₀.slots) : Moves s₀ s s.loadHeadRead := by
  unfold State.loadHeadRead
  split
  case h_1 l bytes hc hr =>
    split
    case h_1 w hl =>
      exact (State.portNone_moves s).trans (State.loadHead_moves (s := { s with port := none }) hc hl hh hs bytes)
    case h_2 => exact .refl
  case h_2 => exact .refl

/-- A read hands over as many bytes as it asks for (R142); in a tail stage the head gives that number. -/
theorem State.readReply_length {head bytes : List Byte} (hr : s.readReply = some bytes)
    (ht : s.ctl.tailHead = some head) (hf : s.ctl.fits s.port) : bytes.length = (decodeHead head).tailLength := by
  unfold State.readReply at hr
  split at hr
  case h_1 address n ticks hp =>
    cases hr
    have := hf head ht _ hp rfl
    cases this
    simp [Mem.readBytes]
  case h_2 => cases hr

/-- A record's tail leads to its install, or to the loss of its channel. -/
theorem State.loadTailRead_moves (hh : s.held = false) (hs : s.view = s₀.view) : Moves s₀ s s.loadTailRead := by
  obtain ⟨-, hslots, -, -, -, -, -, hctl, hport, -, -⟩ := (State.view_eq_iff s₀ s).1 hs
  unfold State.loadTailRead
  split
  case h_1 l bytes hc hr =>
    split
    case h_1 w head hl =>
      refine (State.portNone_moves s).trans
        (State.loadTail_moves (s := { s with port := none }) hc (.inr hl) hh hslots fun hf => ?_)
      refine State.readReply_length hr ?_ (by rwa [hctl, hport])
      obtain ⟨st, m, n⟩ := l
      cases hl
      rw [hc]
      rfl
    case h_2 => exact .refl
  case h_2 => exact .refl

/-- A load whose read has fallen silent (R164, R170). -/
theorem State.loadSilent_moves {l : LoadState} (hc : s.ctl = .loading l) (hh : s.held = false) :
    Moves s₀ s (s.loadSilent l) := by
  unfold State.loadSilent
  split
  case h_1 => exact .refl
  case h_2 => exact State.loadHeader_moves hc hh none (by simp)
  case h_3 => exact State.loadHeader_moves hc hh none (by simp)
  case h_4 w hl => exact State.loseRest_moves hc (by rw [hl]; rfl) hh _ _
  case h_5 w head hl => exact State.loseRest_moves hc (by rw [hl]; rfl) hh _ _

/-- A load begins (R160, R161). -/
theorem State.startLoad_moves (h : s.edits = [] ∨ s.held = true) (e : t.view = State.view { s with held := false }) :
    Moves s₀ s t.startLoad := by
  refine Relation.ReflTransGen.trans ((Move.drain h).to_view ?_) (State.endDrain_moves _)
  rw [State.view_eq_iff] at e ⊢
  simp_all

/-! ### A repair -/

/-- A repair goes on. -/
theorem Moves.repairing {r r' : RepairState} {p : Option Transfer} (hc : s.ctl = .repairing r)
    (hf : (Controller.repairing r').fits p) (e : t.view = State.view { s with ctl := .repairing r', port := p }) :
    Moves s₀ s t :=
  .work (by simp [hc]) (by simp) hf e

/-- A repair that expects the next head, or ends (R183). -/
theorem State.repairOn_moves {r r' : RepairState} (hc : s.ctl = .repairing r) (area : Area) (h : Header)
    (channels : List Channel) (offset : Nat) : Moves s₀ s (s.repairOn r' area h channels offset) := by
  cases channels with
  | nil => exact State.endRepair_moves (by simp [hc]) _
  | cons c later => exact .repairing hc (Controller.fits_of_no_tail rfl _) rfl

/-- What follows when a header of a repair has been judged (R182). -/
theorem State.repairHeader_moves {r : RepairState} (hc : s.ctl = .repairing r) (found : Option Header) :
    Moves s₀ s (s.repairHeader r found) := by
  unfold State.repairHeader
  split
  case h_1 => exact .repairing hc (Controller.fits_of_no_tail rfl _) rfl
  case h_2 =>
    unfold State.repairChoose
    split
    case h_1 => exact State.endRepair_moves (by simp [hc]) _
    case h_2 =>
      split
      case isTrue => exact State.repairOn_moves hc _ _ _ _
      case isFalse => exact State.endRepair_moves (by simp [hc]) _
  case h_3 => exact .refl

/-- A header read moves the repair on, or ends it. -/
theorem State.repairHeaderRead_moves (s : State) : Moves s₀ s s.repairHeaderRead := by
  unfold State.repairHeaderRead
  split
  case h_1 r bytes hc hr =>
    split
    case isTrue =>
      exact (State.portNone_moves s).trans (State.repairHeader_moves (s := { s with port := none }) hc _)
    case isFalse => exact .refl
  case h_2 => exact .refl

/-- The target's tail has been read (R184, R185). -/
theorem State.repairTail_moves {r : RepairState} {head tail : List Byte} (hc : s.ctl = .repairing r)
    (hs : s.slots = s₀.slots) (ht : s₀.ctl.fits s₀.port → tail.length = (decodeHead head).tailLength) (w : Walk) :
    Moves s₀ s (s.repairTail r w head tail) := by
  have hn : ∀ l, s.ctl ≠ .loading l := by simp [hc]
  unfold State.repairTail
  simp only
  split
  case isTrue => exact State.endRepair_moves hn _
  case isFalse hv =>
    split
    case isTrue => exact State.endRepair_moves hn _
    case isFalse hb =>
      split
      case isTrue => exact State.endRepair_moves hn _
      case isFalse =>
        split
        case h_1 => exact State.endRepair_moves hn _
        case h_2 i hi =>
          simp only [not_or, Bool.not_eq_false, ne_eq, not_not] at hv hb
          have hf : (s₀.slot i).state = .free := by
            rw [show s₀.slot i = s.slot i by simp [State.slot, hs]]
            exact (State.room_free hi).2
          refine .head (.repair hc hb.1 hb.2 hv.2 ht hi hf) (State.endRepair_moves ?_ _)
          rw [show (s.repairInstall r i (decodeRecord head tail)).ctl = s.ctl by
            simp [State.repairInstall, State.release_eq]]
          exact hn

/-- A head of a repair's walk has been read (R183). -/
theorem State.repairHead_moves {r : RepairState} (hc : s.ctl = .repairing r) (hs : s.slots = s₀.slots) (w : Walk)
    (head : List Byte) : Moves s₀ s (s.repairHead r w head) := by
  have hn : ∀ l, s.ctl ≠ .loading l := by simp [hc]
  unfold State.repairHead
  simp only
  split
  case isTrue => exact State.endRepair_moves hn _
  case isFalse =>
    split
    case isTrue => exact State.repairOn_moves hc _ _ _ _
    case isFalse =>
      split
      case isTrue => exact State.endRepair_moves hn _
      case isFalse =>
        split
        case isTrue h0 => exact State.repairTail_moves (tail := []) hc hs (fun _ => h0.symm) w
        case isFalse =>
          refine Moves.repairing (r' := { r with stage := .tail w head }) hc (p := some
            { address := w.address + 18, kind := .read (decodeHead head).tailLength, finishing := false, ticks := 0 })
            ?_ rfl
          intro h hh t ht _
          cases hh
          cases ht
          rfl

/-- A record's head moves the repair on, installs or ends it. -/
theorem State.repairHeadRead_moves (hs : s.slots = s₀.slots) : Moves s₀ s s.repairHeadRead := by
  unfold State.repairHeadRead
  split
  case h_1 r bytes hc hr =>
    split
    case h_1 w hl =>
      exact (State.portNone_moves s).trans (State.repairHead_moves (s := { s with port := none }) hc hs w bytes)
    case h_2 => exact .refl
  case h_2 => exact .refl

/-- A record's tail ends the repair, with an install where the record serves. -/
theorem State.repairTailRead_moves (hs : s.view = s₀.view) : Moves s₀ s s.repairTailRead := by
  obtain ⟨-, hslots, -, -, -, -, -, hctl, hport, -, -⟩ := (State.view_eq_iff s₀ s).1 hs
  unfold State.repairTailRead
  split
  case h_1 r bytes hc hr =>
    split
    case h_1 w head hl =>
      refine (State.portNone_moves s).trans
        (State.repairTail_moves (s := { s with port := none }) hc hslots (fun hf => ?_) w)
      refine State.readReply_length hr ?_ (by rwa [hctl, hport])
      obtain ⟨c, i, st⟩ := r
      cases hl
      rw [hc]
      rfl
    case h_2 => exact .refl
  case h_2 => exact .refl

/-- A repair whose read has fallen silent (R182, R186). -/
theorem State.repairSilent_moves {r : RepairState} (hc : s.ctl = .repairing r) : Moves s₀ s (s.repairSilent r) := by
  unfold State.repairSilent
  split
  case h_1 => exact State.repairHeader_moves hc none
  case h_2 => exact State.repairHeader_moves hc none
  case h_3 => exact State.endRepair_moves (by simp [hc]) _
  case h_4 => exact State.endRepair_moves (by simp [hc]) _

/-! ### The tick -/

/-- What a discarded entry does to the slots does not depend on the edit set. -/
theorem State.discardAll_edits (es : List Entry) (s : State) (x : List Entry) :
    es.foldl State.discard { s with edits := x } = { es.foldl State.discard s with edits := x } := by
  induction es generalizing s with
  | nil => rfl
  | cons e es ih =>
    have h : State.discard { s with edits := x } e = { s.discard e with edits := x } := by
      unfold State.discard
      cases e.slot with
      | none => rfl
      | some i => simp only [State.release_eq]; rfl
    rw [List.foldl_cons, h, ih]
    rfl

/-- The emptying of the set does not end a reset. -/
theorem State.emptyEdits_held (s : State) : s.emptyEdits.held = s.held := by
  have h (es : List Entry) : ∀ s : State, (es.foldl State.discard s).held = s.held := by
    induction es with
    | nil => exact fun _ => rfl
    | cons e es ih => exact fun s => (ih _).trans (by rw [State.discard_eq])
  exact h s.edits s

/-- The set is emptied by discarding its entries in index order (R62, R65). -/
theorem State.discardAll_moves (es : List Entry) (s : State) (hs : s.edits = es) :
    Moves s₀ s { es.foldl State.discard s with edits := [] } := by
  induction es generalizing s with
  | nil => exact .of_view (by rw [State.view_eq_iff]; simp [hs])
  | cons e es ih =>
    refine .head (.discard (by rw [hs])) ?_
    have h := ih { s.discard e with edits := es } rfl
    rwa [State.discardAll_edits] at h

/-- The edit set is emptied by discards. -/
theorem State.emptyEdits_moves (s : State) : Moves s₀ s s.emptyEdits :=
  (State.discardAll_moves s.edits s rfl).to_view rfl

/-- The lease timer does not touch the hold of a reset. -/
theorem State.leaseTick_held (s : State) : s.leaseTick.held = s.held := by
  unfold State.leaseTick
  split
  case h_1 =>
    split
    case isTrue => exact s.emptyEdits_held
    case isFalse => rfl
  case h_2 => rfl
  case h_3 => rfl

/-- The time base discards the edit set at a lapse and sweeps at a seconds tick. -/
theorem State.timeTick_moves (s : State) : Moves s₀ s s.timeTick := by
  have lease (s : State) : Moves s₀ s s.leaseTick := by
    unfold State.leaseTick
    split
    case h_1 =>
      split
      case isTrue => exact (State.emptyEdits_moves s).to_view rfl
      case isFalse => exact .of_view rfl
    case h_2 => exact .refl
    case h_3 => exact .refl
  unfold State.timeTick
  split
  case isTrue =>
    exact Moves.after (Relation.ReflTransGen.tail (lease { s with partTime := nextSecond s.partTime, msCount := 0 }) .sweep)
      rfl
  case isFalse => exact .of_view rfl

/-- A silence of the store moves the operation it belongs to. -/
theorem State.silence_moves (hh : s.held = false) (p : Transfer) (took : Bool) : Moves s₀ s (s.silence p took) := by
  have h1 : Moves s₀ s (s.afterSilence p took) := by
    unfold State.afterSilence
    cases p.kind <;> exact (State.portNone_moves s).to_view rfl
  have h2 : (s.afterSilence p took).held = false ∧ (s.afterSilence p took).ctl = s.ctl := by
    unfold State.afterSilence
    cases p.kind <;> exact ⟨hh, rfl⟩
  refine h1.trans ?_
  unfold State.silence
  simp only
  split
  case isTrue => exact State.portFreed_moves _
  case isFalse =>
    split
    case h_1 v hc => exact State.endSave_moves (by simp [hc]) _
    case h_2 l hc => exact State.loadSilent_moves hc h2.1
    case h_3 r hc => exact State.repairSilent_moves hc
    case h_4 => exact .refl

/-- The silence timer counts, or the transfer falls silent. -/
theorem State.portTick_moves (hh : s.held = false) (took : Bool) : Moves s₀ s (s.portTick took) := by
  unfold State.portTick
  split
  case h_1 => exact .refl
  case h_2 p hp =>
    split
    case isTrue => exact State.silence_moves hh p took
    case isFalse =>
      refine .single (.port fun hf head hd t ht => ?_)
      cases ht
      exact hf head hd p hp

/-- A step of the scrub finds a mismatch or none. -/
theorem State.scrubTick_moves (s : State) : Moves s₀ s s.scrubTick := by
  have check (s : State) : Moves s₀ s s.scrubCheck := by
    unfold State.scrubCheck
    split
    case h_1 => exact .refl
    case h_2 i hi =>
      simp only
      split
      case isTrue => exact .of_view rfl
      case isFalse =>
        have ha : (s.slot i).state = .active := by simpa using List.find?_some hi
        refine Moves.after (t := { s with scrubPos := i + 1 }) ?_ rfl
        exact .head (.mismatch ha) (State.startRepair_moves _)
  unfold State.scrubTick
  split
  case isTrue => exact .of_view rfl
  case isFalse =>
    split
    case isTrue => exact Moves.after (check _) rfl
    case isFalse => exact .of_view rfl

/-- What is not taken while the device is held needs only be looked at out of reset (R160; log entry 12). -/
theorem State.awake_moves {f : State → State} (h : s.held = false → Moves s₀ s (f s)) : Moves s₀ s (s.awake f) := by
  cases hh : s.held with
  | true => rw [State.awake_held hh]
  | false => rw [State.awake_running hh]; exact h hh

/-- A millisecond tick is the time base, the silence timer and the scrub in turn. -/
theorem State.tick_moves (s : State) (took : Bool) : Moves s₀ s (s.tick took) :=
  State.awake_moves fun hh => by
    have ht : s.timeTick.held = false := by
      unfold State.timeTick
      split
      case isTrue => exact (State.leaseTick_held _).trans hh
      case isFalse => exact hh
    exact ((State.timeTick_moves s).trans (State.portTick_moves ht took)).trans (State.scrubTick_moves _)

end

end Sys2Proof.Machine

namespace Sys2Proof.Machine

section
variable {s₀ s t u : State}

/-- A run may begin in any state of the same view. -/
theorem Run.after (h : Run s₀ t u) (e : t.view = s.view) : Run s₀ s u := .head (.inl (.quiet e)) h

/-- States of one view. -/
theorem Run.of_view (e : t.view = s.view) : Run s₀ s t := (Moves.of_view e).run

/-! ### Commands that are answered at once -/

/-- A command's answer is one of moves, and is not PENDING: it ends no probe and begins none. -/
def Answer.Settles (s₀ s : State) (a : Answer) : Prop := Moves s₀ s a.state ∧ a.status ≠ .pending

/-- A refusal changes nothing. -/
theorem Answer.settles_refuse {st : Status} (h : st ≠ .pending) : (Answer.refuse s st).Settles s₀ s := ⟨.refl, h⟩

/-- An answer OK after moves. -/
theorem Answer.settles_ok {a : Answer} (h : Moves s₀ s a.state) (hs : a.status = .ok) : a.Settles s₀ s :=
  ⟨h, by simp [hs]⟩

/-- A command that is refused while a load is in progress (R50). -/
theorem unlessLoading_settles {run : State → Answer} (h : (∀ l, s.ctl ≠ .loading l) → (run s).Settles s₀ s) :
    (unlessLoading run s).Settles s₀ s := by
  unfold unlessLoading
  split
  case isTrue => exact Answer.settles_refuse (by simp)
  case isFalse hl => exact h fun l hc => hl ((State.isLoading_iff s).2 ⟨l, hc⟩)

/-- What a settled command leaves in the buffer is an answer without a probe. -/
theorem Answer.Settles.respond {a : Answer} (h : a.Settles s₀ s) (hp : s.probe = .none) (k : CommandCode) :
    Run s₀ s (a.respond k) :=
  (Moves.run h.1).turn (.answer ((Moves.engine_eq h.1).2.1.trans hp) h.2)

/-- A frame at the port (R191, R194, R202). -/
theorem State.takeFrame_run {k : CommandCode} {run : State → Answer}
    (h : s.count.hears → Run s₀ s.count ((run s.count).respond k)) : Run s₀ s (s.takeFrame k run) := by
  cases ho : s.portOpen with
  | false => rw [State.takeFrame_closed ho]
  | true =>
    by_cases hp : s.probe = .none
    · have hh : s.hears := by simp_all [State.portOpen, State.hears]
      rw [State.takeFrame_heard hh]
      exact Run.after (h hh) rfl
    · rw [State.takeFrame_pending ho hp]
      exact Run.of_view rfl

/-- The frame of a command that is answered at once. -/
theorem State.takeFrame_settles {k : CommandCode} {run : State → Answer}
    (h : s.count.hears → (run s.count).Settles s₀ s.count) : Run s₀ s (s.takeFrame k run) :=
  State.takeFrame_run fun hh => (h hh).respond hh.2.2 k

/-! ### The edit commands -/

/-- Open Edit refuses, or opens the entry. -/
theorem openEdit_settles (hp : s.probe = .none) (hs : s.slots = s₀.slots) (c : Channel) (kind : Byte) :
    (openEdit c kind s).Settles s₀ s := by
  refine unlessLoading_settles fun hn => ?_
  split
  case h_1 => exact Answer.settles_refuse (by simp)
  case h_2 kind _ =>
    split
    case isTrue => exact Answer.settles_refuse (by simp)
    case isFalse hc =>
      have hc : s.findEdit c = none := by simpa using hc
      split
      case isTrue => exact Answer.settles_refuse (by simp)
      case isFalse hm =>
        have hm : s.edits.length < Config.maxEdits := by omega
        split
        case isTrue => exact Answer.settles_refuse (by simp)
        case isFalse hk =>
          split
          case isTrue hr => exact ⟨.single (.opened hn hp hc hm (by simp [hr]) (by simp)), by simp [State.openEntry, Answer.ok]⟩
          case isFalse hr =>
            have free {i : SlotIdx} (hi : s.lowestFree = some i) : (s₀.slot i).state = .free := by
              rw [show s₀.slot i = s.slot i by simp [State.slot, hs]]
              exact State.free_of_lowestFree hi
            unfold State.openStaged
            split
            case h_1 => exact Answer.settles_refuse (by simp)
            case h_2 i hi =>
              split
              case h_1 _ src hb _ =>
                simp only
                split
                case isTrue => exact Answer.settles_refuse (by simp)
                case isFalse hf =>
                  split
                  case isTrue =>
                    have ha : (s.slot src).state = .active := by
                      have hb := (s.boundSlot_iff c src).1 hb
                      simpa [State.kindFits, hb] using hk
                    exact ⟨.head (.mismatch ha) (State.startRepair_moves _), by simp [Answer.refuse]⟩
                  case isFalse =>
                    refine ⟨.single (.opened hn hp hc hm (by simp) ?_), by simp [State.openEntry, Answer.ok]⟩
                    rintro _ ⟨⟩
                    exact ⟨hi, free hi, by simpa [stagedContent] using hf, .inr ⟨src, rfl⟩⟩
              case h_2 =>
                refine ⟨.single (.opened hn hp hc hm (by simp [hr]) ?_), by simp [State.openEntry, Answer.ok]⟩
                rintro _ ⟨⟩
                exact ⟨hi, free hi, by simp [stagedContent, blankContent], .inl rfl⟩

/-- A content command that names a staged slot (R56). -/
theorem onStaged_settles {c : Channel} {run : State → SlotIdx → Answer}
    (h : ∀ e ∈ s.edits, ∀ i, e.slot = some i → (run s i).Settles s₀ s) : (onStaged c run s).Settles s₀ s := by
  refine unlessLoading_settles fun _ => ?_
  split
  case h_1 => exact Answer.settles_refuse (by simp)
  case h_2 e he =>
    split
    case h_1 => exact Answer.settles_refuse (by simp)
    case h_2 i hi => exact h e (List.mem_of_find?_eq_some he) i hi

/-- A staged content replaced (R56). -/
theorem State.stage_settles {e : Entry} {i : SlotIdx} {content : Content} {cells : Nat} (hp : s.probe = .none)
    (he : e ∈ s.edits) (hi : e.slot = some i)
    (hc : cells + content.points.length = s.freeCells + (s.slot i).content.points.length)
    (hst : (s.slot i).content.stated = true → content.stated = true) :
    (State.stage { s with freeCells := cells } i content).Settles s₀ s :=
  Answer.settles_ok ((Move.stage hp he hi hc hst).to_view rfl) rfl

/-- The stated values of a content, one by one (R4). -/
theorem Content.stated_iff (c : Content) :
    c.stated = true ↔
      c.points.length ≤ 32 ∧ c.label.length ≤ 15 ∧ c.label.all printable = true ∧ c.due ≠ some 0#32 := by
  simp only [Content.stated, Bool.and_eq_true, decide_eq_true_eq, bne_iff_ne, and_assoc]
  rfl

/-- A due time that a Set Fields stores is not 0 (R57). -/
theorem decodeFields_due {f : FieldBytes} {v : Fields} (h : decodeFields f = some v) : v.due ≠ some 0#32 := by
  unfold decodeFields at h
  split at h
  case h_2 => cases h
  case h_1 due _ _ _ _ _ =>
    split at h
    case isTrue => cases h
    case isFalse hd =>
      cases h
      cases due <;> simp_all

/-- Set Fields refuses, or replaces the staged fields. -/
theorem setFields_settles (hp : s.probe = .none) (c : Channel) (f : FieldBytes) :
    (setFields c f s).Settles s₀ s := by
  refine onStaged_settles fun e he i hi => ?_
  split
  case h_1 => exact Answer.settles_refuse (by simp)
  case h_2 v hv =>
    refine State.stage_settles (cells := s.freeCells) hp he hi rfl fun hs => ?_
    rw [Content.stated_iff] at hs ⊢
    exact ⟨hs.1, hs.2.1, hs.2.2.1, decodeFields_due hv⟩

/-- Set Label refuses, or replaces the staged label. -/
theorem setLabel_settles (hp : s.probe = .none) (c : Channel) (label : List Byte) :
    (setLabel c label s).Settles s₀ s := by
  refine onStaged_settles fun e he i hi => ?_
  split
  case isTrue => exact Answer.settles_refuse (by simp)
  case isFalse hl =>
    simp only [not_or, Nat.not_lt, Bool.not_eq_false] at hl
    refine State.stage_settles (cells := s.freeCells) hp he hi rfl fun hs => ?_
    rw [Content.stated_iff] at hs ⊢
    exact ⟨hs.1, hl.1, hl.2, hs.2.2.2⟩

/-- The length of a list after points are written into it without a gap (R59). -/
theorem overwrite_length {list : List Point} {start : Nat} (points : List Point) (h : start ≤ list.length) :
    (overwrite list start points).length = max list.length (start + points.length) := by
  simp [overwrite]
  omega

/-- Put Points refuses, or replaces the staged list within the pool. -/
theorem putPoints_settles (hp : s.probe = .none) (c : Channel) (start : Byte) (points : List Point) :
    (putPoints c start points s).Settles s₀ s := by
  refine onStaged_settles fun e he i hi => ?_
  simp only
  split
  case isTrue => exact Answer.settles_refuse (by simp)
  case isFalse hl =>
    split
    case isTrue => exact Answer.settles_refuse (by simp)
    case isFalse hf =>
      simp only [Config.maxPoints, not_or, Nat.not_lt] at hl
      have hlen := overwrite_length points hl.2.2.1
      refine State.stage_settles hp he hi ?_ fun hs => ?_
      · show _ + (overwrite _ _ _).length = _
        rw [hlen]
        omega
      · rw [Content.stated_iff] at hs ⊢
        refine ⟨?_, hs.2⟩
        show (overwrite _ _ _).length ≤ 32
        rw [hlen]
        omega

/-- Trim Points refuses, or gives cells back. -/
theorem trimPoints_settles (hp : s.probe = .none) (c : Channel) (count : Byte) :
    (trimPoints c count s).Settles s₀ s := by
  refine onStaged_settles fun e he i hi => ?_
  simp only
  split
  case isTrue => exact Answer.settles_refuse (by simp)
  case isFalse hl =>
    have hlen : ((s.slot i).content.points.take count.toNat).length = count.toNat := by simp; omega
    refine State.stage_settles hp he hi ?_ fun hs => ?_
    · show _ + (List.take _ _).length = _
      omega
    · rw [Content.stated_iff] at hs ⊢
      exact ⟨by show (List.take _ _).length ≤ 32; omega, hs.2⟩

/-- Drop Edit refuses, or discards the entry. -/
theorem dropEdit_settles (c : Channel) : (dropEdit c s).Settles s₀ s := by
  refine unlessLoading_settles fun _ => ?_
  split
  case h_1 => exact Answer.settles_refuse (by simp)
  case h_2 e he =>
    have hperm : s.edits.Perm (e :: s.edits.eraseP fun e => e.channel == c) := by
      obtain ⟨hc, before, after, hes, hb⟩ := List.find?_eq_some_iff_append.1 he
      have hb : ∀ d ∈ before, ¬ (d.channel == c) = true := by simpa using hb
      rw [hes, List.eraseP_append_right _ hb, List.eraseP_cons_of_pos (p := fun e : Entry => e.channel == c) hc]
      exact List.perm_middle
    simp only
    split
    case isTrue => exact Answer.settles_ok ((Move.discard hperm).to_view rfl) rfl
    case isFalse => exact Answer.settles_ok ((Move.discard hperm).to_view rfl) rfl

/-- Abandon refuses, or empties the set. -/
theorem abandon_settles : (abandon s).Settles s₀ s := by
  refine unlessLoading_settles fun _ => ?_
  split
  case isTrue => exact Answer.settles_refuse (by simp)
  case isFalse => exact Answer.settles_ok (State.emptyEdits_moves s) rfl

/-- A set without a failing entry passes (R71). -/
theorem State.firstFailure_none {es : List Entry} {n : Nat} (h : s.firstFailure es n = none) :
    ∀ e ∈ es, s.validateEntry e = none := by
  induction es generalizing n with
  | nil => simp
  | cons e es ih =>
    unfold State.firstFailure at h
    split at h
    case h_1 => cases h
    case h_2 he =>
      rintro d (_ | hd)
      · exact he
      · exact ih h d (by assumption)

/-- Commit refuses, or applies every entry. -/
theorem commit_settles (hp : s.probe = .none) : (commit s).Settles s₀ s := by
  refine unlessLoading_settles fun _ => ?_
  split
  case isTrue => exact Answer.settles_refuse (by simp)
  case isFalse =>
    split
    case isTrue => exact Answer.settles_refuse (by simp)
    case isFalse =>
      split
      case h_1 => exact ⟨.of_view rfl, by simp⟩
      case h_2 hf => exact Answer.settles_ok ((Move.commit hp (State.firstFailure_none hf)).to_view rfl) rfl

/-- Read Edit Set moves nothing. -/
theorem readEditSet_settles (start : Byte) : (readEditSet start s).Settles s₀ s := by
  unfold readEditSet
  split
  case isTrue => exact Answer.settles_refuse (by simp)
  case isFalse => exact Answer.settles_ok .refl rfl

/-! ### The other commands answered at once -/

/-- A refusal of Read Record is not PENDING (R27). -/
theorem State.selectRecord_error {c : Channel} {which : Byte} {st : Status} (h : s.selectRecord c which = .error st) :
    st ≠ .pending := by
  unfold State.selectRecord at h
  split at h
  case h_1 => cases h; simp
  case h_2 => split at h <;> cases h; simp
  case h_3 =>
    split at h
    case h_1 => cases h; simp
    case h_2 => split at h <;> cases h; simp

/-- Read Record moves nothing. -/
theorem readRecord_settles (c : Channel) (which : Byte) : (readRecord c which s).Settles s₀ s := by
  unfold readRecord
  split
  case h_1 st h => exact Answer.settles_refuse (State.selectRecord_error h)
  case h_2 => exact Answer.settles_ok .refl rfl

/-- Read Points moves nothing. -/
theorem readPoints_settles (c : Channel) (which start count : Byte) :
    (readPoints c which start count s).Settles s₀ s := by
  unfold readPoints
  split
  case h_1 st h => exact Answer.settles_refuse (State.selectRecord_error h)
  case h_2 =>
    simp only
    split
    case isTrue => exact Answer.settles_refuse (by simp)
    case isFalse => exact Answer.settles_ok .refl rfl

/-- Clear Reasons moves nothing that the laws read. -/
theorem clearReasons_settles (c : Channel) (selection : Byte) : (clearReasons c selection s).Settles s₀ s := by
  unfold clearReasons
  split
  case isTrue => exact Answer.settles_refuse (by simp)
  case isFalse => exact Answer.settles_ok (.of_view rfl) rfl

/-- Clear Causes moves nothing that the laws read. -/
theorem clearCauses_settles (selection : Byte) : (clearCauses selection s).Settles s₀ s := by
  unfold clearCauses
  split
  case isTrue => exact Answer.settles_refuse (by simp)
  case isFalse => exact Answer.settles_ok (.of_view rfl) rfl

/-- Set Control moves nothing but a repair that may start. -/
theorem setControl_settles (selection : Half) (v : ControlBytes) : (setControl selection v s).Settles s₀ s := by
  unfold setControl
  split
  case isTrue => exact Answer.settles_refuse (by simp)
  case isFalse => exact Answer.settles_ok (Moves.after (State.startRepair_moves _) rfl) rfl

/-- Set Time sweeps. -/
theorem setTime_settles (seconds : Word) : (setTime seconds s).Settles s₀ s :=
  Answer.settles_ok (Moves.after (t := { s with partTime := seconds, msCount := 0 }) (.single .sweep) rfl) rfl

/-- Save refuses, or begins a save. -/
theorem saveCommand_settles : (saveCommand s).Settles s₀ s := by
  unfold saveCommand
  split
  case isTrue => exact Answer.settles_refuse (by simp)
  case isFalse hi =>
    split
    case isTrue => exact Answer.settles_refuse (by simp)
    case isFalse =>
      have hi : s.ctl = .idle := (State.isIdle_iff s).1 (by simpa using hi)
      refine ⟨?_, by simp⟩
      show Moves s₀ s s.startSave
      unfold State.startSave
      rw [State.issueFirst_eq]
      exact .work (by simp [hi]) (by simp) (Controller.fits_of_no_tail rfl _) rfl

/-- A stopped save (R154, R155). -/
theorem State.stopSave_moves {v : SaveState} (hc : s.ctl = .saving v) : Moves s₀ s (s.stopSave v) := by
  refine (State.dropTransfer_moves s).trans (State.endSave_moves ?_ _)
  rw [State.dropTransfer_eq]
  simp [hc]

/-- Stop Save refuses, or ends the save. -/
theorem stopSaveCommand_settles : (stopSaveCommand s).Settles s₀ s := by
  unfold stopSaveCommand
  split
  case h_1 v hc => exact Answer.settles_ok (State.stopSave_moves hc) rfl
  case h_2 => exact Answer.settles_refuse (by simp)

/-- Reload refuses, or begins a load. -/
theorem reload_settles (hh : s.held = false) : (reload s).Settles s₀ s := by
  unfold reload
  split
  case isTrue => exact Answer.settles_refuse (by simp)
  case isFalse =>
    split
    case isTrue => exact Answer.settles_refuse (by simp)
    case isFalse he =>
      have he : s.edits = [] := by simpa using he
      exact ⟨State.startLoad_moves (.inl he) (by simp [State.view, hh]), by simp⟩

/-! ### Probe -/

/-- A probe that is accepted waits in the buffer. -/
theorem probe_run (hp : s.probe = .none) (c : Channel) (raw : Half) (which : Byte) (k : CommandCode) :
    Run s₀ s ((probe c raw which s).respond k) := by
  have settled {a : Answer} (h : a.Settles s₀ s) : Run s₀ s (a.respond k) := h.respond hp k
  have accepted (q : ProbeRequest) (h : ∀ i, q.staged = some i → 2 ≤ (s.slot i).content.points.length) :
      Run s₀ s ((s.acceptProbe q).respond k) := (Turn.accept hp rfl h).run
  unfold probe unlessLoading
  split
  case isTrue => exact settled (Answer.settles_refuse (by simp))
  case isFalse =>
    split
    case h_1 => exact settled (Answer.settles_refuse (by simp))
    case h_2 => exact accepted _ (by simp)
    case h_3 =>
      simp only
      split
      case h_1 => exact settled (Answer.settles_refuse (by simp))
      case h_2 e he =>
        split
        case h_1 => exact settled (Answer.settles_refuse (by simp))
        case h_2 i hi =>
          split
          case isTrue hr =>
            refine accepted _ fun j hj => ?_
            cases hj
            simp only [probeReady, Bool.and_eq_true, decide_eq_true_eq] at hr
            exact hr.1
          case isFalse => exact settled (Answer.settles_refuse (by simp))

/-! ### Grants and completions -/

/-- The context that the arbiter gives is free, and the hold is clear (R95, R96, R98). -/
theorem State.selected_free {p : Fin 5} {k : CtxIdx} (h : s.selected = some (p, k)) :
    s.hold = false ∧ s.context k = none := by
  unfold State.selected at h
  split at h
  case isTrue => cases h
  case isFalse hh =>
    split at h
    case h_1 k' p' hk hp =>
      cases h
      exact ⟨by simpa using hh, by simpa using List.find?_some hk⟩
    case h_2 => cases h

/-- A snapshot pins the slot that the channel is BOUND to, or none (R38). -/
theorem State.snapshot_pinned (s : State) (c : Channel) : (s.snapshot c).2.2 = s.boundSlot c := by
  unfold State.snapshot State.boundSlot
  cases (s.entry c).binding <;> rfl

/-- A lane's grant begins a lookup of the slot its channel is BOUND to. -/
theorem State.laneGrant_run (hs : s.slots = s₀.slots) : Run s₀ s s.laneGrant := by
  unfold State.laneGrant
  split
  case h_2 => exact .refl
  case h_1 p k hsel =>
    obtain ⟨hh, hk⟩ := State.selected_free hsel
    split
    case isFalse => exact .refl
    case isTrue hp =>
      unfold State.grantLane
      split
      case h_1 => exact .refl
      case h_2 q rest hq =>
        have hg := Turn.laneGrant (s₀ := s₀) (l :=
          { requester := .lane ⟨p.val, hp⟩, tag := q.tag, channel := q.channel, raw := q.raw, which := .active
            binding := some (s.snapshot q.channel).1, revision := (s.snapshot q.channel).2.1
            pinned := (s.snapshot q.channel).2.2, drop := false }) hs hh hk rfl rfl
          (.inr (.inl ⟨q.channel, (s.snapshot_pinned q.channel).symm⟩))
        refine (Turn.run hg).moves (.of_view ?_)
        simp only [State.begin]
        cases (s.snapshot q.channel).2.2 <;> rfl

/-- A probe's grant begins its lookup, or withdraws the probe. -/
theorem State.probeGrant_run (hs : s.slots = s₀.slots) : Run s₀ s s.probeGrant := by
  unfold State.probeGrant
  split
  case h_2 => exact .refl
  case h_1 p k hsel =>
    obtain ⟨hh, hk⟩ := State.selected_free hsel
    split
    case isTrue => exact .refl
    case isFalse =>
      unfold State.grantProbe
      split
      case h_2 => exact .refl
      case h_1 q hq =>
        split
        case h_1 =>
          exact (Turn.run (.probeGrant hs hh hk rfl rfl hq
            (.inr (.inl ⟨q.channel, (s.snapshot_pinned q.channel).symm⟩)))).moves (.of_view rfl)
        case h_2 =>
          split
          case h_1 i hi =>
            refine (Turn.run (.probeGrant hs hh hk rfl rfl hq (.inr (.inr ⟨rfl, q, hq, ?_⟩)))).moves (.of_view rfl)
            unfold State.stillStaged at hi
            split at hi
            case h_1 e j he hj =>
              split at hi
              case isTrue hs => cases hi; exact ⟨hj, e, List.mem_of_find?_eq_some he, hs⟩
              case isFalse => cases hi
            case h_2 => cases hi
          case h_2 => exact (Turn.withdraw hq (by simp)).run

/-- The end of a lookup, with the drain that it may end (R101, R103). -/
theorem State.finish_eq (s : State) (k : CtxIdx) (l : Lookup) : s.finish k l = (s.endLookup k l).endDrain := rfl

/-- The end of a lookup, with the probe and the buffer replaced before it or after it. -/
theorem State.endLookup_probe (s : State) (k : CtxIdx) (l : Lookup) (q : Probe) (r : Response) :
    State.endLookup { s with probe := q, response := r } k l = { s.endLookup k l with probe := q, response := r } := by
  unfold State.endLookup
  cases l.pinned with
  | none => rfl
  | some i => simp only [State.unpin_eq]; rfl

/-- A lane's completion ends its lookup, and a load's drain may end. -/
theorem State.laneCompletion_run (s : State) (k : CtxIdx) : Run s₀ s (s.laneCompletion k) := by
  have ends {t : State} {l : Lookup} (hk : t.context k = some l) (hr : l.requester = .host → l.drop = true) :
      Run s₀ t (t.finish k l) := (Turn.run (.lookupEnd hk hr)).moves (State.endDrain_moves _)
  unfold State.laneCompletion
  split
  case h_2 => exact .refl
  case h_1 l hk =>
    split
    case h_2 => exact .refl
    case h_1 n hn =>
      unfold State.completeLane
      simp only
      split
      case isTrue => exact Run.after (ends hk (by simp [hn])) rfl
      case isFalse => exact Run.after (ends hk (by simp [hn])) rfl

/-- A probe's completion ends its lookup and answers. -/
theorem State.probeCompletion_run (s : State) (k : CtxIdx) : Run s₀ s (s.probeCompletion k) := by
  unfold State.probeCompletion
  split
  case h_2 => exact .refl
  case h_1 l hk =>
    split
    case h_2 => exact .refl
    case h_1 hn =>
      unfold State.completeProbe
      simp only
      split
      case isTrue hd => exact (Turn.run (.lookupEnd hk fun _ => hd)).moves (State.endDrain_moves _)
      case isFalse hd =>
        rw [State.finish_eq, State.endLookup_probe]
        exact (Turn.run (.probeEnd hk hn (by simpa using hd) (by simp))).moves (State.endDrain_moves _)

/-! ### The resets and Restart -/

/-- A reset leaves the reset state but for the store. -/
theorem State.hardReset_run (s : State) (torn : List Byte) : Run s₀ s (s.hardReset torn) :=
  Turn.run (.reset rfl)

/-- The end of a reset begins the boot load. -/
theorem State.bootLoad_run (s : State) (csLow : Bool) : Run s₀ s (s.bootLoad csLow) := by
  unfold State.bootLoad
  split
  case isTrue hh => exact Moves.run (State.startLoad_moves (.inr hh) rfl)
  case isFalse => exact .refl

/-- What Restart does to the operation in progress (R155, R173, R187). -/
theorem State.restartStore_moves (s : State) : Moves s₀ s s.restartStore := by
  unfold State.restartStore
  split
  case h_1 => exact .refl
  case h_2 v hc => exact State.stopSave_moves hc
  case h_3 r hc =>
    refine (State.dropTransfer_moves s).trans (Moves.work (p := s.dropTransfer.port) ?_ (by simp)
      (Controller.fits_of_no_tail rfl _) rfl)
    rw [State.dropTransfer_eq]
    simp [hc]
  case h_4 l hc =>
    split
    case isTrue => exact State.endDrain_moves s
    case isFalse hl =>
      rw [State.beginHeaders_eq]
      refine (State.dropTransfer_moves s).tail (.clear (l := l) ?_ (absurd · hl))
      rw [State.dropTransfer_eq]
      exact hc

/-- Restart empties the edit set, drops the lookups and ends the operation. -/
theorem State.restart_run (s : State) : Run s₀ s s.restart := by
  refine Run.moves (t := s.restartBlocks) ?_ (State.restartStore_moves _)
  refine ((State.emptyEdits_moves s).run.turn
    (.drop (contexts := s.emptyEdits.dropLookups.contexts) (r := Response.reset) (fun k => .inl ?_) (by simp [Response.reset]))).moves
    (.of_view rfl)
  exact tabulate_get _ k

/-- A probe is dropped by a Restart frame that is refused (R191; log entry 15). -/
theorem State.takeBadLength_run (s : State) (k : CommandCode) : Run s₀ s (s.takeBadLength k) := by
  have answer (s : State) : Answer.Settles s₀ s
      (if loadingFirst k && s.isLoading then .refuse s .loading else .refuse s .badParam) := by
    split
    case isTrue => exact Answer.settles_refuse (by simp)
    case isFalse => exact Answer.settles_refuse (by simp)
  unfold State.takeBadLength
  simp only
  split
  case isFalse => exact State.takeFrame_settles fun _ => answer _
  case isTrue =>
    have drops {r : Response} (hr : r.status ≠ .pending) :
        Turn s₀ s { s with contexts := s.dropProbe.contexts, probe := .none, response := r } := by
      refine .drop (fun k => ?_) hr
      have h : s.dropProbe.contexts.get k = _ := tabulate_get _ k
      rw [h]
      cases hk : s.context k with
      | none => simp
      | some l => by_cases hr : l.requester = .host <;> simp [hr]
    split
    case isTrue => exact Run.moves (Turn.run (drops (by simp [Answer.refuse, Answer.respond]))) (.of_view rfl)
    case isFalse => exact Run.moves (Turn.run (drops (by simp [Answer.refuse, Answer.respond]))) (.of_view rfl)

/-! ### The step -/

/-- A frame that fails its checks is answered with the error, or refused while a probe is pending. -/
theorem State.takeFrameError_run (s : State) (code : Option Byte) (e : FrameError) :
    Run s₀ s (s.takeFrameError code e) := by
  unfold State.takeFrameError
  split
  case isTrue => exact .refl
  case isFalse =>
    split
    case isTrue => exact .of_view rfl
    case isFalse hp =>
      exact Turn.run (.answer (by simpa [State.probePending] using hp) (by cases e <;> simp [frameErrorStatus]))

/-- A taken command runs on the state of the port's view, and nothing but the frame's count has changed. -/
theorem runCommand_run (hs : s.view = s₀.view) (i : Instr) (h : runCommand i s = .next t) : Run s₀ s t := by
  have hslots : s.slots = s₀.slots := congrArg View.slots hs
  cases i <;> cases h
  case openEdit c kind => exact State.takeFrame_settles fun hh => openEdit_settles hh.2.2 hslots c kind
  case setFields c f => exact State.takeFrame_settles fun hh => setFields_settles hh.2.2 c f
  case setLabel c label => exact State.takeFrame_settles fun hh => setLabel_settles hh.2.2 c label
  case putPoints c start points => exact State.takeFrame_settles fun hh => putPoints_settles hh.2.2 c start points
  case trimPoints c count => exact State.takeFrame_settles fun hh => trimPoints_settles hh.2.2 c count
  case dropEdit c => exact State.takeFrame_settles fun _ => dropEdit_settles c
  case abandon => exact State.takeFrame_settles fun _ => abandon_settles
  case commit => exact State.takeFrame_settles fun hh => commit_settles hh.2.2
  case readEditSet start => exact State.takeFrame_settles fun _ => readEditSet_settles start
  case probe c raw which => exact State.takeFrame_run fun hh => probe_run hh.2.2 c raw which _
  case readMapEntry c => exact State.takeFrame_settles fun _ => Answer.settles_ok .refl rfl
  case readRecord c which => exact State.takeFrame_settles fun _ => readRecord_settles c which
  case readPoints c which start count => exact State.takeFrame_settles fun _ => readPoints_settles c which start count
  case setTime seconds => exact State.takeFrame_settles fun _ => setTime_settles seconds
  case readAttention start => exact State.takeFrame_settles fun _ => Answer.settles_ok .refl rfl
  case clearReasons c selection => exact State.takeFrame_settles fun _ => clearReasons_settles c selection
  case clearCauses selection => exact State.takeFrame_settles fun _ => clearCauses_settles selection
  case save => exact State.takeFrame_settles fun _ => saveCommand_settles
  case stopSave => exact State.takeFrame_settles fun _ => stopSaveCommand_settles
  case reload => exact State.takeFrame_settles fun hh => reload_settles hh.1
  case setControl selection values => exact State.takeFrame_settles fun _ => setControl_settles selection values
  case readControl => exact State.takeFrame_settles fun _ => Answer.settles_ok .refl rfl
  case readStatus => exact State.takeFrame_settles fun _ => Answer.settles_ok (.of_view rfl) rfl
  case readIdentity => exact State.takeFrame_settles fun _ => Answer.settles_ok .refl rfl
  case restart =>
    split
    case isTrue => exact State.restart_run s
    case isFalse => exact .refl
  all_goals exact .refl

/-- A command write runs its command, or answers its error (R189 to R191). -/
theorem State.commandWrite_run (hs : s.view = s₀.view) {bytes : List Byte} (h : s.commandWrite bytes = .next t) :
    Run s₀ s t := by
  unfold State.commandWrite at h
  simp only at h
  split at h
  case h_1 => cases h; exact Run.after (State.takeFrameError_run _ _ _) rfl
  case h_2 k payload hk =>
    split at h
    case h_1 => cases h; exact Run.after (State.takeBadLength_run _ _) rfl
    case h_2 i _ => exact Run.after (runCommand_run (s := { s with sdo := List.replicate (bytes.length + 1) 0#8 }) hs i h) rfl

/-- Where a row of the table names a tick, the tick is taken or nothing is. -/
theorem State.tick_run {b : Prop} [Decidable b] (s : State) (took : Bool) : Run s₀ s (if b then s.tick took else s) := by
  split
  case isTrue => exact (State.tick_moves s took).run
  case isFalse => exact .refl

/-- Every row of the table is a run. -/
theorem exec_run (hs : s.view = s₀.view) (i : Instr) (h : exec i s = .next t) : Run s₀ s t := by
  have hslots : s.slots = s₀.slots := congrArg View.slots hs
  have command (hc : exec i s = runCommand i s) : Run s₀ s t := runCommand_run hs i (hc ▸ h)
  have awake {f : State → State} (hf : s.held = false → Moves s₀ s (f s)) (e : t = s.awake f) : Run s₀ s t :=
    e ▸ (State.awake_moves hf).run
  have awake_run {f : State → State} (hf : Run s₀ s (f s)) (e : t = s.awake f) : Run s₀ s t := by
    subst e
    cases hh : s.held with
    | true => rw [State.awake_held hh]
    | false => rwa [State.awake_running hh]
  have next {u : State} (e : exec i s = .next u) : t = u := by rw [e] at h; cases h; rfl
  cases i
  case powerOnReset torn => exact next rfl ▸ State.hardReset_run s torn
  case pinReset torn => exact next rfl ▸ State.hardReset_run s torn
  case bootLoad csLow => exact next rfl ▸ State.bootLoad_run s csLow
  case commandWrite bytes =>
    by_cases ho : s.portOpen = true
    · exact State.commandWrite_run hs ((if_pos ho).symm.trans h)
    · have := next (if_neg ho)
      exact this ▸ .refl
  case frameError code e => exact next rfl ▸ State.takeFrameError_run s code e
  case responseRead n =>
    have := next rfl
    subst this
    split <;> exact .of_view rfl
  case ignoredTransaction bytes =>
    have := next rfl
    subst this
    split <;> exact .of_view rfl
  case requestArrival n word =>
    have : t = s.arrive n word := next rfl
    subst this
    unfold State.arrive
    split <;> exact .of_view rfl
  case resultTake n => exact next rfl ▸ .of_view rfl
  case laneGrant => exact awake_run (State.laneGrant_run hslots) (next rfl)
  case probeGrant => exact awake_run (State.probeGrant_run hslots) (next rfl)
  case laneCompletion k => exact awake_run (State.laneCompletion_run s k) (next rfl)
  case probeCompletion k => exact awake_run (State.probeCompletion_run s k) (next rfl)
  case millisecondTick took => exact next rfl ▸ (State.tick_moves s took).run
  case secondsTick took => exact next rfl ▸ State.tick_run s took
  case leaseLapse took => exact next rfl ▸ State.tick_run s took
  case stepExpiry took => exact next rfl ▸ State.tick_run s took
  case upset i content => exact next rfl ▸ .single (.inl .upset)
  case saveHeaderReadCompletion => exact awake (fun _ => State.saveHeaderRead_moves s) (next rfl)
  case invalidateWriteCompletion => exact awake (fun _ => State.invalidateDone_moves s) (next rfl)
  case bodyWriteCompletion => exact awake (fun _ => State.bodyDone_moves s) (next rfl)
  case headerWriteCompletion => exact awake (fun _ => State.headerDone_moves s) (next rfl)
  case markerWriteCompletion => exact awake (fun _ => State.markerDone_moves s) (next rfl)
  case saveStoreSilence took => exact next rfl ▸ State.tick_run s took
  case finishingWriteCompletion => exact awake (fun _ => State.finishingDone_moves s) (next rfl)
  case finishingWriteSilence took => exact next rfl ▸ State.tick_run s took
  case deferredTransferIssue => exact awake (fun _ => State.issueDeferred_moves s) (next rfl)
  case tableClear => exact awake (fun _ => State.endDrain_moves s) (next rfl)
  case loadHeaderReadCompletion => exact awake State.loadHeaderRead_moves (next rfl)
  case loadHeaderSilence => exact next rfl ▸ State.tick_run s false
  case loadHeadReadCompletion => exact awake (fun hh => State.loadHeadRead_moves hh hslots) (next rfl)
  case loadTailReadCompletion => exact awake (fun hh => State.loadTailRead_moves hh hs) (next rfl)
  case loadWalkSilence => exact next rfl ▸ State.tick_run s false
  case repairStart => exact awake (fun _ => State.startRepair_moves s) (next rfl)
  case repairHeaderReadCompletion => exact awake (fun _ => State.repairHeaderRead_moves s) (next rfl)
  case repairHeadReadCompletion => exact awake (fun _ => State.repairHeadRead_moves hslots) (next rfl)
  case repairTailReadCompletion => exact awake (fun _ => State.repairTailRead_moves hs) (next rfl)
  case repairStoreSilence => exact next rfl ▸ State.tick_run s false
  case chipSelectRiseAfterReset => exact awake (fun _ => .of_view rfl) (next rfl)
  all_goals exact command rfl

/-- Every step is a run. -/
theorem step_run (h : step s = .next t) : Run s s t := by
  unfold step at h
  split at h
  case h_1 => cases h; exact .refl
  case h_2 i rest _ => exact Run.after (t := { s with pending := rest }) (exec_run rfl i h) rfl

end

end Sys2Proof.Machine

namespace Sys2Proof.Machine

/-! ### What the operations do to each slot -/

/-- A slot after one was replaced. -/
theorem State.slot_setSlot (s : State) (i : SlotIdx) (v : Slot) (j : SlotIdx) :
    (s.setSlot i v).slot j = if j = i then v else s.slot j := by
  split
  case isTrue h => rw [h, State.slot_setSlot_same]
  case isFalse h => rw [State.slot_setSlot_other _ _ _ _ h]

/-- A slot after one was superseded or discarded (R11, R13). -/
theorem State.slot_release (s : State) (i j : SlotIdx) :
    (s.release i).slot j = if j = i then (s.slot i).released else s.slot j := by
  rw [State.release_eq]
  exact s.slot_setSlot i _ j

/-- A slot after an entry was discarded (R11). -/
theorem State.slot_discard (s : State) (e : Entry) (j : SlotIdx) :
    (s.discard e).slot j = if e.slot = some j then (s.slot j).released else s.slot j := by
  unfold State.discard
  cases e.slot with
  | none => simp
  | some i =>
    simp only [Option.some.injEq, State.slot_release]
    by_cases h : j = i <;> simp [h, eq_comm]

/-- A slot after the record of a channel was superseded (R13). -/
theorem State.slot_supersede (s : State) (c : Channel) (j : SlotIdx) :
    (s.supersede c).slot j = if s.boundSlot c = some j then (s.slot j).released else s.slot j := by
  unfold State.supersede
  cases s.boundSlot c with
  | none => simp
  | some i =>
    simp only [Option.some.injEq, State.slot_release]
    by_cases h : j = i <;> simp [h, eq_comm]

/-- The content that an accepted commit installs (R77). -/
def installedContent (content : Content) (c : Channel) (revision : Half) : Content :=
  { content with channel := c, revision, crc := contentCrc { content with channel := c, revision } }

/-- A staged slot after its install (R10, R77). -/
def Slot.installedAs (sl : Slot) (c : Channel) (revision : Half) : Slot :=
  { sl with state := .active, expired := false, content := installedContent sl.content c revision }

/-- A slot after an accepted commit has applied one entry (R75 to R80). -/
theorem State.slot_applyEntry (s : State) (e : Entry) (j : SlotIdx) :
    (s.applyEntry e).slot j =
      if e.slot = some j then ((s.supersede e.channel).slot j).installedAs e.channel (nextRevision (s.entry e.channel).revision)
      else (s.supersede e.channel).slot j := by
  unfold State.applyEntry
  cases e.slot with
  | none => rfl
  | some i =>
    simp only [Option.some.injEq]
    refine (State.slot_setSlot _ i _ j).trans ?_
    by_cases h : j = i
    · subst h; simp; rfl
    · simp [h, Ne.symm h]

/-- A slot after a mismatch on one (R176). -/
theorem State.slot_mismatch (s : State) (i j : SlotIdx) :
    (s.mismatch i).slot j = if j = i then { s.slot i with state := .suspect } else s.slot j := by
  have h : (s.mismatch i).slots = _ := congrArg View.slots (s.mismatch_view i)
  show (s.mismatch i).slots.get j = _
  rw [h]
  exact s.slot_setSlot i _ j

/-- A slot after an upset (R19): its content alone may have changed, for one of stated values and as many points. -/
theorem State.slot_upset (s : State) (i : SlotIdx) (content : Content) (j : SlotIdx) :
    (s.upset i content).slot j = s.slot j ∨
      (s.slot j).state ≠ .free ∧ content.points.length = (s.slot j).content.points.length ∧ content.stated = true ∧
        (s.upset i content).slot j = { s.slot j with content } := by
  unfold State.upset
  split
  case isTrue h =>
    obtain ⟨hf, hp, hst⟩ := h
    by_cases hj : j = i
    · subst hj
      exact .inr ⟨hf, hp, hst, State.slot_setSlot_same _ _ _⟩
    · exact .inl (State.slot_setSlot_other _ _ _ _ hj)
  case isFalse => exact .inl rfl

/-- A slot after a load's install (R168). -/
theorem State.slot_loadInstall (s : State) (i : SlotIdx) (content : Content) (j : SlotIdx) :
    (s.loadInstall i content).slot j =
      if j = i then installedSlot content (dueBy s.partTime content) else s.slot j := by
  have h : (s.loadInstall i content).slots = _ := congrArg View.slots (s.loadInstall_view i content)
  show (s.loadInstall i content).slots.get j = _
  rw [h]
  exact s.slot_setSlot i _ j

/-- A slot after a repair's install in a slot other than the SUSPECT one (R185). -/
theorem State.slot_repairInstall (s : State) (r : RepairState) {i : SlotIdx} (content : Content) (hi : r.slot ≠ i)
    (j : SlotIdx) :
    (s.repairInstall r i content).slot j =
      if j = r.slot then (s.slot r.slot).released
      else if j = i then installedSlot content (s.slot r.slot).expired else s.slot j := by
  have h1 (j : SlotIdx) : State.slot { s.setSlot i (installedSlot content (s.slot r.slot).expired) with
      freeCells := s.freeCells - content.points.length } j = _ := s.slot_setSlot i _ j
  refine (State.slot_release _ r.slot j).trans ?_
  rw [State.slot_setEntry, State.slot_setEntry, h1, h1, if_neg hi]

/-- A slot after an accepted Open Edit (R55). -/
theorem State.slot_openEntry (s : State) (c : Channel) (kind : EditKind) (i : SlotIdx) (content : Content) (j : SlotIdx) :
    (s.openEntry c kind (some (i, content))).state.slot j =
      if j = i then { state := .staged, pins := 0, expired := false, content } else s.slot j :=
  s.slot_setSlot i _ j

/-- A slot after a grant (R14). -/
theorem State.slot_begin (s : State) (k : CtxIdx) (l : Lookup) (j : SlotIdx) :
    (s.begin k l).slot j = if l.pinned = some j then { s.slot j with pins := (s.slot j).pins + 1 } else s.slot j := by
  unfold State.begin
  cases l.pinned with
  | none => simp
  | some i =>
    simp only [Option.some.injEq]
    refine (State.slot_setSlot _ i _ j).trans ?_
    by_cases h : j = i
    · subst h; simp
    · simp [h, Ne.symm h]

/-- A slot after the end of a lookup (R14, R15). -/
theorem State.slot_endLookup (s : State) (k : CtxIdx) (l : Lookup) (j : SlotIdx) :
    (s.endLookup k l).slot j = if l.pinned = some j then (s.slot j).unpinned else s.slot j := by
  unfold State.endLookup
  cases l.pinned with
  | none => simp
  | some i =>
    simp only [Option.some.injEq, State.unpin_eq]
    refine (State.slot_setSlot _ i _ j).trans ?_
    by_cases h : j = i <;> simp [h, eq_comm]

/-! ### The expired flag -/

/-- A slot that has been flagged since the step began, or has entered FREE (R18, R117). -/
def Slot.flagStays (sl : Slot) : Prop :=
  sl = Slot.blank ∨ sl.state ≠ .free ∧ sl.state ≠ .staged ∧ sl.expired = true

/-- A release clears the flag with the entry into FREE alone. -/
theorem Slot.flagStays.released {sl : Slot} (h : sl.flagStays) : sl.released.flagStays := by
  unfold Slot.released
  split
  case isTrue => exact .inl rfl
  case isFalse hp =>
    obtain rfl | ⟨-, -, he⟩ := h
    · exact absurd rfl hp
    · exact .inr ⟨by simp, by simp, he⟩

/-- An unpin clears the flag with the entry into FREE alone. -/
theorem Slot.flagStays.unpinned {sl : Slot} (h : sl.flagStays) : sl.unpinned.flagStays := by
  unfold Slot.unpinned
  split
  case isTrue => exact .inl rfl
  case isFalse hp =>
    obtain rfl | h := h
    · exact .inl rfl
    · exact .inr h

/-- A mismatch keeps the flag. -/
theorem Slot.flagStays.suspect {sl : Slot} (h : sl.flagStays) (ha : sl.state = .active) :
    Slot.flagStays { sl with state := .suspect } := by
  obtain rfl | ⟨-, -, he⟩ := h
  · cases ha
  · exact .inr ⟨by simp, by simp, he⟩

/-- The slot's flag stays, and no entry of the edit set names the slot. -/
def State.flagStays (s : State) (i : SlotIdx) : Prop := (s.slot i).flagStays ∧ ∀ e ∈ s.edits, e.slot ≠ some i

section
variable {s₀ s t : State} {i : SlotIdx}

/-- The flag depends on the slot and on the entries that name it. -/
theorem State.flagStays.congr (h : s.flagStays i) (h1 : t.slot i = s.slot i) (h2 : t.edits = s.edits) :
    t.flagStays i := by
  unfold State.flagStays
  rw [h1, h2]
  exact h

/-- An accepted commit does not touch the flag of a slot that no entry names (R77). -/
theorem State.flagStays.commit (es : List Entry) : ∀ s : State, (s.slot i).flagStays → (∀ e ∈ es, e.slot ≠ some i) →
    ((es.foldl State.applyEntry s).slot i).flagStays := by
  induction es with
  | nil => exact fun s h _ => h
  | cons e es ih =>
    intro s h he
    refine ih _ ?_ fun d hd => he d (by simp [hd])
    rw [State.slot_applyEntry, if_neg (he e (by simp)), State.slot_supersede]
    split
    case isTrue => exact h.released
    case isFalse => exact h

/-- A move clears the flag of no slot that was neither FREE nor named by an entry when the step began (R117). -/
theorem Move.flagStays (hm : Move s₀ s t) (h₀ : (s₀.slot i).state ≠ .free) (h : s.flagStays i) : t.flagStays i := by
  obtain ⟨hf, he⟩ := h
  cases hm with
  | quiet e =>
    exact State.flagStays.congr ⟨hf, he⟩ (congrArg (Vector.get · i) (congrArg View.slots e)) (congrArg View.edits e)
  | clear => exact ⟨.inl (s.slot_clearTable i), he⟩
  | @install l w j head tail =>
    have hj : i ≠ j := by rintro rfl; exact h₀ ‹_›
    have h1 : (s.loadInstall j (decodeRecord head tail)).slot i = s.slot i := by rw [State.slot_loadInstall, if_neg hj]
    have h2 : (s.loadInstall j (decodeRecord head tail)).edits = s.edits :=
      congrArg View.edits (s.loadInstall_view j _)
    exact State.flagStays.congr ⟨hf, he⟩ h1 h2
  | @opened c kind taken _ _ _ _ _ ht =>
    cases taken with
    | none => exact ⟨hf, by simpa [State.openEntry, Answer.ok, or_imp, forall_and] using he⟩
    | some p =>
      obtain ⟨-, hj, -⟩ := ht p rfl
      have hj : p.1 ≠ i := by rintro rfl; exact h₀ hj
      refine ⟨?_, by simpa [State.openEntry, Answer.ok, or_imp, forall_and, hj] using he⟩
      rw [State.slot_openEntry, if_neg (Ne.symm hj)]
      exact hf
  | @stage e j content cells _ hm hj =>
    have hj : i ≠ j := by rintro rfl; exact he e hm hj
    exact ⟨(s.slot_setSlot_other j _ i hj).symm ▸ hf, he⟩
  | @discard e rest hp =>
    refine ⟨?_, fun d hd => ?_⟩
    · show ((s.discard e).slot i).flagStays
      rw [State.slot_discard]
      split
      case isTrue => exact hf.released
      case isFalse => exact hf
    · exact he d (hp.mem_iff.2 (by simp only at hd; simp [hd]))
  | commit => exact ⟨State.flagStays.commit s.edits s hf he, by simp⟩
  | @mismatch j ha =>
    have h1 : (s.mismatch j).edits = s.edits := congrArg View.edits (s.mismatch_view j)
    refine ⟨?_, h1.symm ▸ he⟩
    rw [State.slot_mismatch]
    split
    case isTrue h => subst h; exact hf.suspect ha
    case isFalse => exact hf
  | sweep =>
    refine ⟨?_, he⟩
    rw [State.sweep_slot]
    split
    case isTrue hfalls =>
      obtain hb | ⟨h1, h2, -⟩ := hf
      · rw [hb] at hfalls; cases hfalls
      · exact .inr ⟨h1, h2, rfl⟩
    case isFalse => exact hf
  | @upset j content =>
    refine ⟨?_, ?_⟩
    · obtain h | ⟨h1, -, -, h⟩ := s.slot_upset j content i
      · rwa [h]
      · rw [h]
        obtain hb | hf := hf
        · rw [hb] at h1; exact absurd rfl h1
        · exact .inr hf
    · unfold State.upset
      split <;> exact he
  | @repair r j head tail _ _ hs _ _ hi hj =>
    have hj : i ≠ j := by rintro rfl; exact h₀ hj
    have hne : r.slot ≠ j := by
      rintro rfl
      rw [(State.room_free hi).2] at hs
      cases hs
    refine ⟨?_, ?_⟩
    · rw [State.slot_repairInstall s r _ hne]
      split
      case isTrue h => subst h; exact hf.released
      case isFalse => exact hf
    · simpa [State.repairInstall, State.release_eq] using he
  | _ => exact ⟨hf, he⟩

/-- Nor does a turn (R117). -/
theorem Turn.flagStays (ht : Turn s₀ s t) (h₀ : (s₀.slot i).state ≠ .free) (h : s.flagStays i) : t.flagStays i := by
  obtain ⟨hf, he⟩ := h
  have pinned (k : CtxIdx) (l : Lookup) (hs : s.slots = s₀.slots) : ((s.begin k l).slot i).flagStays := by
    rw [State.slot_begin]
    split
    case isTrue =>
      obtain hb | hf := hf
      · rw [show s₀.slot i = s.slot i by simp [State.slot, hs], hb] at h₀
        exact absurd rfl h₀
      · exact .inr hf
    case isFalse => exact hf
  have begin_edits (k : CtxIdx) (l : Lookup) : (s.begin k l).edits = s.edits := by
    rw [State.begin_eq]; rfl
  have ended (k : CtxIdx) (l : Lookup) : ((s.endLookup k l).slot i).flagStays := by
    rw [State.slot_endLookup]
    split
    case isTrue => exact hf.unpinned
    case isFalse => exact hf
  have end_edits (k : CtxIdx) (l : Lookup) : (s.endLookup k l).edits = s.edits := by
    rw [State.endLookup_eq]; rfl
  cases ht with
  | laneGrant hs => exact ⟨pinned _ _ hs, (begin_edits _ _).symm ▸ he⟩
  | probeGrant hs => exact ⟨pinned _ _ hs, (begin_edits _ _).symm ▸ he⟩
  | @lookupEnd k l => exact ⟨ended k l, (end_edits k l).symm ▸ he⟩
  | @probeEnd k l => exact ⟨ended k l, (end_edits k l).symm ▸ he⟩
  | reset e =>
    refine State.flagStays.congr (s := State.reset) ⟨.inl (State.slot_reset i), by simp [State.reset]⟩ ?_ ?_
    · exact congrArg (Vector.get · i) (congrArg View.slots e)
    · exact congrArg View.edits e
  | _ => exact ⟨hf, he⟩

/-- Settles O33: a slot that is not STAGED is named by no entry (R9), and along the run of a step its flag is cleared by
nothing but its entry into FREE. -/
theorem expiredFlagStays : Obligations.ExpiredFlagStays := by
  intro s t i hl hstep hstate hexp
  have hstaged : (s.slot i).state ≠ .staged ∧ (s.slot i).state ≠ .free := by
    obtain h | h | h := hstate <;> simp [h]
  have hnamed : ∀ e ∈ s.edits, e.slot ≠ some i := by
    have h0 : s.editCount i = 0 := by rw [hl.1 i, if_neg hstaged.1]
    simpa [State.editCount] using h0
  have hrun : t.flagStays i :=
    (step_run hstep).keeps (inv := fun s => s.flagStays i)
      ⟨.inr ⟨hstaged.2, hstaged.1, hexp⟩, hnamed⟩ (fun _ _ hm => hm.flagStays hstaged.2) (fun _ _ ht => ht.flagStays hstaged.2)
  obtain h | ⟨-, -, h⟩ := hrun.1
  · exact .inr (by rw [h]; rfl)
  · exact .inl h
end

end Sys2Proof.Machine

namespace Sys2Proof.Machine

/-! ### Counting bindings, entries and pins -/

/-- Two counts that differ at one place at most. -/
theorem countP_finRange_change {n : Nat} (p q : Fin n → Bool) (a : Fin n) (h : ∀ b, b ≠ a → q b = p b) :
    (List.finRange n).countP q + (if p a then 1 else 0) = (List.finRange n).countP p + (if q a then 1 else 0) := by
  have split (r : Fin n → Bool) : (List.finRange n).countP r =
      ((List.finRange n).erase a).countP r + if r a then 1 else 0 := by
    rw [(List.perm_cons_erase (List.mem_finRange a)).countP_eq, List.countP_cons]
  have others : ((List.finRange n).erase a).countP q = ((List.finRange n).erase a).countP p :=
    List.countP_congr fun b hb => by rw [h b (((List.nodup_finRange n).mem_erase_iff).1 hb).1]
  rw [split p, split q, others]
  omega

section
variable {s₀ s t : State}

/-- The slot that a binding names. -/
def Binding.slot : Binding → Option SlotIdx
  | .bound i => some i
  | .unassigned | .lost => none

/-- The slot a channel is bound to is that of its entry's binding. -/
theorem State.boundSlot_eq (s : State) (c : Channel) : s.boundSlot c = (s.entry c).binding.slot := by
  unfold State.boundSlot Binding.slot
  cases (s.entry c).binding <;> rfl

/-- What a channel is bound to depends on the map alone. -/
theorem State.boundSlot_congr (h : t.map = s.map) (c : Channel) : t.boundSlot c = s.boundSlot c := by
  simp [State.boundSlot, State.entry, h]

/-- The slot of a channel after an entry was replaced. -/
theorem State.boundSlot_setEntry (s : State) (c : Channel) (e : MapEntry) (d : Channel) :
    (s.setEntry c e).boundSlot d = if d = c then e.binding.slot else s.boundSlot d := by
  rw [State.boundSlot_eq, State.boundSlot_eq]
  split
  case isTrue h => rw [h, State.entry_setEntry_same]
  case isFalse h => rw [State.entry_setEntry_other _ _ _ _ h]

/-- Bindings are counted in the map alone. -/
theorem State.boundCount_congr (h : t.map = s.map) (i : SlotIdx) : t.boundCount i = s.boundCount i := by
  simp [State.boundCount, State.boundSlot_congr h]

/-- The bindings to a slot after an entry was replaced (R1). -/
theorem State.boundCount_setEntry (s : State) (c : Channel) (e : MapEntry) (i : SlotIdx) :
    (s.setEntry c e).boundCount i + (if s.boundSlot c = some i then 1 else 0) =
      s.boundCount i + if e.binding.slot = some i then 1 else 0 := by
  have h := countP_finRange_change (fun d => s.boundSlot d == some i) (fun d => (s.setEntry c e).boundSlot d == some i) c
    fun d hd => by rw [State.boundSlot_setEntry, if_neg hd]
  simp only [State.boundSlot_setEntry, beq_iff_eq, if_true] at h
  simpa only [State.boundCount, State.boundSlot_setEntry] using h

/-- A slot that some channel is bound to is counted. -/
theorem State.boundCount_pos {c : Channel} {i : SlotIdx} (h : s.boundSlot c = some i) : 0 < s.boundCount i :=
  List.countP_pos_iff.2 ⟨c, List.mem_finRange c, by simp [h]⟩

/-- A slot that no channel is bound to. -/
theorem State.boundCount_eq_zero {i : SlotIdx} (h : ∀ c, s.boundSlot c ≠ some i) : s.boundCount i = 0 := by
  simpa [State.boundCount, List.countP_eq_zero] using h

/-- Entries are counted in the edit set alone. -/
theorem State.editCount_congr (h : t.edits = s.edits) (i : SlotIdx) : t.editCount i = s.editCount i := by
  simp [State.editCount, h]

/-- Without an entry no slot is named. -/
theorem State.editCount_eq_zero (h : s.edits = []) (i : SlotIdx) : s.editCount i = 0 := by simp [State.editCount, h]

/-- The entries that name a slot, one entry taken apart (R9). -/
theorem State.editCount_perm {e : Entry} {rest : List Entry} (h : s.edits.Perm (e :: rest)) (ht : t.edits = rest)
    (i : SlotIdx) : s.editCount i = t.editCount i + if e.slot = some i then 1 else 0 := by
  simp [State.editCount, h.countP_eq, List.countP_cons, ht]

/-- A slot that an entry names is counted. -/
theorem State.editCount_pos {e : Entry} {i : SlotIdx} (he : e ∈ s.edits) (h : e.slot = some i) : 0 < s.editCount i :=
  List.countP_pos_iff.2 ⟨e, he, by simp [h]⟩

/-- Lookups are counted in the contexts alone. -/
theorem State.pinCount_congr (h : t.contexts = s.contexts) (i : SlotIdx) : t.pinCount i = s.pinCount i := by
  simp [State.pinCount, State.pinnedBy, State.context, h]

/-- The lookups that hold a slot after a context was replaced (R14). -/
theorem State.pinCount_setContext (s : State) (k : CtxIdx) (l : Option Lookup) (i : SlotIdx) :
    (s.setContext k l).pinCount i + (if s.pinnedBy k = some i then 1 else 0) =
      s.pinCount i + if l.bind Lookup.pinned = some i then 1 else 0 := by
  have h := countP_finRange_change (fun j => s.pinnedBy j == some i) (fun j => (s.setContext k l).pinnedBy j == some i) k
    fun j hj => by rw [State.pinnedBy, State.context_setContext_other _ _ _ _ hj, State.pinnedBy]
  have hk : (s.setContext k l).pinnedBy k = l.bind Lookup.pinned := by
    rw [State.pinnedBy, State.context_setContext_same]
  simp only [hk, beq_iff_eq] at h
  exact h

/-- Without a lookup in flight no slot is held. -/
theorem State.pinCount_eq_zero (h : ∀ k, s.context k = none) (i : SlotIdx) : s.pinCount i = 0 := by
  simp [State.pinCount, State.pinnedBy, h]

/-- A slot held by a lookup in flight is counted. -/
theorem State.pinCount_pos {k : CtxIdx} {l : Lookup} {i : SlotIdx} (hk : s.context k = some l) (h : l.pinned = some i) :
    0 < s.pinCount i :=
  List.countP_pos_iff.2 ⟨k, List.mem_finRange k, by simp [State.pinnedBy, hk, h]⟩

/-- Cells are counted in the lists' lengths alone. -/
theorem State.cellsUsed_congr (h : ∀ i, (t.slot i).content.points.length = (s.slot i).content.points.length) :
    t.cellsUsed = s.cellsUsed := by
  simp [State.cellsUsed, h]

/-- The superseding of a record moves cells to the pool and loses none (R17, R20). -/
theorem State.supersede_cells (s : State) (c : Channel) :
    (s.supersede c).freeCells + (s.supersede c).cellsUsed = s.freeCells + s.cellsUsed := by
  unfold State.supersede
  cases s.boundSlot c with
  | none => rfl
  | some i => exact s.release_cells i

/-- So does a discarded entry. -/
theorem State.discard_cells (s : State) (e : Entry) :
    (s.discard e).freeCells + (s.discard e).cellsUsed = s.freeCells + s.cellsUsed := by
  unfold State.discard
  cases e.slot with
  | none => rfl
  | some i => exact s.release_cells i

/-! ### The law of the record store, slot by slot -/

/-- What the law says of one slot that so many BOUND entries, edit entries and lookups name (R1, R9, R14, R15, R17). -/
structure Slot.Lawful (sl : Slot) (bound edits pins : Nat) : Prop where
  bound_eq : bound = if sl.state.installed then 1 else 0
  edits_eq : edits = if sl.state = .staged then 1 else 0
  pins_eq  : sl.pins = pins
  draining : sl.state = .draining → 1 ≤ sl.pins
  free     : sl.state = .free → sl = Slot.blank
  staged   : sl.state = .staged → sl.expired = false

/-- A blank slot that nothing names. -/
theorem Slot.lawful_blank : Slot.blank.Lawful 0 0 0 := ⟨rfl, rfl, rfl, by simp [Slot.blank], by simp, by simp [Slot.blank]⟩

/-- A released slot is named by its lookups alone. -/
theorem Slot.Lawful.released {sl : Slot} {b e p : Nat} (h : sl.Lawful b e p) : sl.released.Lawful 0 0 p := by
  unfold Slot.released
  split
  case isTrue h0 => exact (h.pins_eq.symm.trans h0) ▸ Slot.lawful_blank
  case isFalse h0 => exact ⟨rfl, rfl, h.pins_eq, fun _ => Nat.pos_of_ne_zero h0, by simp, by simp⟩

/-- A slot after one of its lookups has ended (R14, R15). -/
theorem Slot.Lawful.unpinned {sl : Slot} {b e p : Nat} (h : sl.Lawful b e (p + 1)) : sl.unpinned.Lawful b e p := by
  have hp := h.pins_eq
  unfold Slot.unpinned
  split
  case isTrue hd =>
    obtain ⟨hd, h1⟩ := hd
    have hb := h.bound_eq
    have he := h.edits_eq
    simp only [hd, SlotState.installed] at hb he
    obtain rfl : p = 0 := by omega
    simp at hb he
    subst hb he
    exact Slot.lawful_blank
  case isFalse hd =>
    refine ⟨h.bound_eq, h.edits_eq, by simp [hp], fun hs => ?_, fun hs => ?_, h.staged⟩
    · have : ¬ sl.pins ≤ 1 := fun h1 => hd ⟨hs, h1⟩
      show 1 ≤ sl.pins - 1
      omega
    · rw [h.free hs] at hp
      cases hp

/-- A slot that is not FREE after a grant (R14). -/
theorem Slot.Lawful.pinned {sl : Slot} {b e p : Nat} (h : sl.Lawful b e p) (hf : sl.state ≠ .free) :
    Slot.Lawful { sl with pins := sl.pins + 1 } b e (p + 1) :=
  ⟨h.bound_eq, h.edits_eq, congrArg (· + 1) h.pins_eq, fun _ => Nat.le_add_left _ _, fun hs => absurd hs hf, h.staged⟩

/-- A staged slot after its install (R10). -/
theorem Slot.Lawful.installedAs {sl : Slot} {b e p : Nat} (h : sl.Lawful b e p) (c : Channel) (revision : Half) :
    (sl.installedAs c revision).Lawful 1 0 p :=
  ⟨rfl, rfl, h.pins_eq, by simp [Slot.installedAs], by simp [Slot.installedAs], by simp [Slot.installedAs]⟩

/-- A slot taken for a record of the store (R16). -/
theorem installedSlot_lawful (content : Content) (expired : Bool) : (installedSlot content expired).Lawful 1 0 0 :=
  ⟨rfl, rfl, rfl, by simp [installedSlot], by simp [installedSlot], by simp [installedSlot]⟩

/-- A slot that a BOUND entry names is ACTIVE or SUSPECT, and no edit entry names it. -/
theorem Slot.Lawful.of_bound {sl : Slot} {b e p : Nat} (h : sl.Lawful b e p) (hb : 0 < b) :
    b = 1 ∧ e = 0 ∧ sl.state.installed = true := by
  have h1 := h.bound_eq
  have h2 := h.edits_eq
  split at h1
  case isTrue hi =>
    refine ⟨h1, ?_, hi⟩
    rw [h2, if_neg]
    intro hs
    simp [hs, SlotState.installed] at hi
  case isFalse => omega

/-- A slot that an edit entry names is STAGED, and no BOUND entry names it. -/
theorem Slot.Lawful.of_named {sl : Slot} {b e p : Nat} (h : sl.Lawful b e p) (he : 0 < e) :
    b = 0 ∧ e = 1 ∧ sl.state = .staged := by
  have h1 := h.bound_eq
  have h2 := h.edits_eq
  split at h2
  case isTrue hs => exact ⟨by simp [h1, hs, SlotState.installed], h2, hs⟩
  case isFalse => omega

/-- A FREE slot is blank, and nothing names it. -/
theorem Slot.Lawful.of_free {sl : Slot} {b e p : Nat} (h : sl.Lawful b e p) (hf : sl.state = .free) :
    sl = Slot.blank ∧ b = 0 ∧ e = 0 ∧ p = 0 := by
  have hb := h.free hf
  refine ⟨hb, ?_, ?_, ?_⟩
  · simp [h.bound_eq, hf, SlotState.installed]
  · simp [h.edits_eq, hf]
  · rw [← h.pins_eq, hb]; rfl

/-- What the law says of every slot. -/
def State.slotsLaw (s : State) : Prop := ∀ i, (s.slot i).Lawful (s.boundCount i) (s.editCount i) (s.pinCount i)

/-- What the law says of the entries themselves (R47). -/
def State.entriesLaw (s : State) : Prop :=
  (∀ e ∈ s.edits, e.kind = .retire ↔ e.slot = none) ∧ (s.edits.map Entry.channel).Nodup ∧
    s.edits.length ≤ Config.maxEdits

/-- The law of the record store, slot by slot. -/
theorem State.tableLaw_iff (s : State) :
    s.tableLaw ↔ s.slotsLaw ∧ s.entriesLaw ∧ s.cellLaw ∧ s.loadLaw ∧ s.holdLaw := by
  constructor
  · rintro ⟨hb, ⟨he, hr, hn, hm⟩, hp, hc, hl, hh⟩
    refine ⟨fun i => ?_, ⟨hr, hn, hm⟩, hc, hl, hh⟩
    obtain ⟨h1, h2, h3, h4⟩ := hp i
    exact ⟨hb i, he i, h1, h2, h3, h4⟩
  · rintro ⟨hs, ⟨hr, hn, hm⟩, hc, hl, hh⟩
    exact ⟨fun i => (hs i).bound_eq, ⟨fun i => (hs i).edits_eq, hr, hn, hm⟩,
      fun i => ⟨(hs i).pins_eq, (hs i).draining, (hs i).free, (hs i).staged⟩, hc, hl, hh⟩

/-! ### The law of a load -/

/-- Without a load its law is met. -/
theorem State.loadLaw_of_no_load (h : ∀ l, s.ctl ≠ .loading l) : s.loadLaw := by
  unfold State.loadLaw
  split
  case h_1 l hc => exact absurd hc (h l)
  all_goals trivial

/-- What the law of a load says of its stage (R163, R165). -/
def State.stageLaw (s : State) : LoadStage → Prop
  | .drain => True
  | .readA => ∀ c, s.boundSlot c = none
  | .readB a => (∀ c, s.boundSlot c = none) ∧ ∀ h ∈ a, h.sound
  | .head w => s.walkLaw w
  | .tail w head => s.walkLaw w ∧ (decodeHead head).channel = w.expected

/-- The law of a load in progress. -/
theorem State.loadLaw_iff {l : LoadState} (hc : s.ctl = .loading l) :
    s.loadLaw ↔ s.edits = [] ∧ (l.stage = .drain ∨ ∀ k, s.context k = none) ∧ s.stageLaw l.stage := by
  obtain ⟨st, m, n⟩ := l
  unfold State.loadLaw
  rw [hc]
  cases st <;> exact Iff.rfl

/-- The law of a walk in progress. -/
theorem State.loadLaw.walk {l : LoadState} {w : Walk} (h : s.loadLaw) (hc : s.ctl = .loading l)
    (hw : l.stage.walk = some w) : s.edits = [] ∧ (∀ k, s.context k = none) ∧ s.walkLaw w := by
  obtain ⟨h1, h2, h3⟩ := (State.loadLaw_iff hc).1 h
  cases hl : l.stage <;> rw [hl] at hw h2 h3 <;> cases hw
  case head => exact ⟨h1, h2.resolve_left (by simp), h3⟩
  case tail => exact ⟨h1, h2.resolve_left (by simp), h3.1⟩

/-- The law of a load is kept where the operation stays, entries and lookups do not come, and no channel is bound. -/
theorem State.loadLaw.mono (h : s.loadLaw) (hc : t.ctl = s.ctl) (he : s.edits = [] → t.edits = [])
    (hk : (∀ k, s.context k = none) → ∀ k, t.context k = none)
    (hb : ∀ c, s.boundSlot c = none → t.boundSlot c = none) : t.loadLaw := by
  have walk {w : Walk} (hw : s.walkLaw w) : t.walkLaw w := ⟨hw.1, fun c hm => hb c (hw.2 c hm)⟩
  by_cases hl : ∃ l, s.ctl = .loading l
  · obtain ⟨l, hl⟩ := hl
    obtain ⟨h1, h2, h3⟩ := (State.loadLaw_iff hl).1 h
    refine (State.loadLaw_iff (hc.trans hl)).2 ⟨he h1, h2.imp_right hk, ?_⟩
    cases hst : l.stage <;> rw [hst] at h3
    case drain => trivial
    case readA => exact fun c => hb c (h3 c)
    case readB a => exact ⟨fun c => hb c (h3.1 c), h3.2⟩
    case head w => exact walk h3
    case tail w head => exact ⟨walk h3.1, h3.2⟩
  · exact State.loadLaw_of_no_load fun l hl' => hl ⟨l, hc ▸ hl'⟩

/-- An entry is open outside a load only (R162). -/
theorem State.loadLaw.no_load_of_edits (h : s.loadLaw) (he : s.edits ≠ []) (l : LoadState) : s.ctl ≠ .loading l :=
  fun hc => he ((State.loadLaw_iff hc).1 h).1

/-- The newest image is one of the two (R141). -/
theorem newest_mem {a b : Option Header} {area : Area} {h : Header} (hn : newest a b = some (area, h)) :
    h ∈ a ∨ h ∈ b := by
  unfold newest at hn
  split at hn
  case h_1 => cases hn
  case h_2 => cases hn; exact .inl rfl
  case h_3 => cases hn; exact .inr rfl
  case h_4 =>
    split at hn
    case isTrue => cases hn; exact .inr rfl
    case isFalse => cases hn; exact .inl rfl

/-- A load that has gone to its next stage keeps its law. -/
theorem State.loadLaw.next {l l' : LoadState} {p : Option Transfer} (h : s.loadLaw) (hc : s.ctl = .loading l)
    (hn : l.stage.Next l'.stage) : State.loadLaw { s with ctl := .loading l', port := p } := by
  obtain ⟨st, m, n⟩ := l
  obtain ⟨st', m', n'⟩ := l'
  obtain ⟨h1, h2, h3⟩ := (State.loadLaw_iff hc).1 h
  refine (State.loadLaw_iff rfl).2 ?_
  cases hn with
  | header hf => exact ⟨h1, .inr (h2.resolve_left (by simp)), h3, hf⟩
  | @choose a b area hd w hn hf hw =>
    refine ⟨h1, .inr (h2.resolve_left (by simp)), hw ▸ ?_, fun c _ => h3.1 c⟩
    obtain ha | hb := newest_mem hn
    · exact h3.2 hd ha
    · exact hf hd hb
  | head ht =>
    refine ⟨h1, .inr (h2.resolve_left (by simp)), h3, ?_⟩
    simp only [headTrusted, Bool.and_eq_true, beq_iff_eq] at ht
    exact ht.1.1
  | @on _ w w' hw hw' =>
    obtain ⟨-, hk, hn, hb⟩ := h.walk hc hw
    refine ⟨h1, .inr hk, hw' ▸ (List.nodup_cons.1 hn).2, fun c hm => hb c ?_⟩
    rw [hw'] at hm
    exact List.mem_cons_of_mem _ hm

end

end Sys2Proof.Machine

namespace Sys2Proof.Machine

section
variable {s₀ s t : State}

/-! ### The law of the record store is a law of the view -/

/-- Outside a load the hold is clear. -/
theorem State.holdLaw_of_no_load (h : ∀ l, s.ctl ≠ .loading l) (hh : s.hold = false) : s.holdLaw := by
  have : s.isLoading = false := by
    rw [Bool.eq_false_iff, ne_eq, State.isLoading_iff]
    rintro ⟨l, hl⟩
    exact h l hl
  rw [State.holdLaw, hh, this]

/-- During a load the hold is set. -/
theorem State.holdLaw_of_load {l : LoadState} (h : s.ctl = .loading l) (hh : s.hold = true) : s.holdLaw := by
  rw [State.holdLaw, hh, (State.isLoading_iff s).2 ⟨l, h⟩]

/-- Where the hold is clear no load is in progress (R98). -/
theorem State.holdLaw.no_load (h : s.holdLaw) (hh : s.hold = false) (l : LoadState) : s.ctl ≠ .loading l := by
  intro hc
  rw [State.holdLaw, hh, (State.isLoading_iff s).2 ⟨l, hc⟩] at h
  cases h

/-- The hold and the load stay as they are. -/
theorem State.holdLaw.congr (h : s.holdLaw) (h1 : t.hold = s.hold) (h2 : t.ctl = s.ctl) : t.holdLaw := by
  have : t.isLoading = s.isLoading := by rw [State.isLoading, State.isLoading, h2]
  rw [State.holdLaw, h1, this]
  exact h

/-- The law of the record store with that of a held device (R145; log entry 1). -/
def State.lawful (s : State) : Prop := s.tableLaw ∧ s.heldLaw

/-- Reset meets the law of the record store (R24). -/
theorem State.reset_lawful : State.reset.lawful := by
  have hb (c : Channel) : State.reset.boundSlot c = none := by rw [State.boundSlot_eq, State.entry_reset]; rfl
  refine ⟨(State.tableLaw_iff _).2 ⟨fun i => ?_, ?_, ?_, ?_, rfl⟩, fun _ => rfl⟩
  · rw [State.slot_reset, State.boundCount_eq_zero (by simp [hb]), State.editCount_eq_zero rfl,
      State.pinCount_eq_zero State.context_reset]
    exact Slot.lawful_blank
  · exact ⟨by simp [State.reset], by simp [State.reset], by simp [State.reset]⟩
  · have : State.reset.cellsUsed = 0 := by simp [State.cellsUsed, Slot.blank, blankContent]
    rw [State.cellLaw, this]
    rfl
  · exact (State.loadLaw_iff (l := { stage := .drain, installed := 0, lost := 0 }) rfl).2 ⟨rfl, .inl rfl, trivial⟩

/-! ### The law of the record store along a run -/

/-- Where nothing of the table changes but the slots, it is enough to look at each slot. -/
theorem State.lawful.slots (h : s.lawful) (h1 : t.map = s.map) (h4 : t.edits = s.edits) (h5 : t.contexts = s.contexts)
    (h6 : t.hold = s.hold) (h7 : t.held = s.held) (h8 : t.ctl = s.ctl)
    (hcells : t.freeCells + t.cellsUsed = s.freeCells + s.cellsUsed)
    (hslot : ∀ i b e p, (s.slot i).Lawful b e p → (t.slot i).Lawful b e p) : t.lawful := by
  obtain ⟨hs, he, hc, hl, hhold⟩ := (State.tableLaw_iff s).1 h.1
  refine ⟨(State.tableLaw_iff t).2 ⟨fun i => hslot i _ _ _ ?_, ?_, hcells.trans hc, ?_, hhold.congr h6 h8⟩, ?_⟩
  · rw [State.boundCount_congr h1, State.editCount_congr h4, State.pinCount_congr h5]
    exact hs i
  · rw [State.entriesLaw, h4]; exact he
  · exact hl.mono h8 (fun h => h4.trans h) (fun hk k => by simpa [State.context, h5] using hk k)
      fun c hb => by rw [State.boundSlot_congr h1, hb]
  · rw [State.heldLaw, State.isLoading, h7, h8]; exact h.2

/-- Both are laws of the view. -/
theorem State.lawful.of_view (h : s.lawful) (e : t.view = s.view) : t.lawful := by
  obtain ⟨h1, h2, h3, h4, h5, h6, h7, h8, -, -, -⟩ := (State.view_eq_iff s t).1 e
  have slot (i : SlotIdx) : t.slot i = s.slot i := by simp [State.slot, h2]
  refine h.slots h1 h4 h5 h6 h7 h8 ?_ fun i b e p hs => slot i ▸ hs
  rw [h3, State.cellsUsed_congr (s := s) fun i => by rw [slot]]

/-- A load's table clear leaves a lawful table (R163). -/
theorem State.lawful.cleared (h : s.lawful) {l : LoadState} (hc : s.ctl = .loading l)
    (hd : l.stage = .drain → s.drained = true) : s.cleared.lawful := by
  obtain ⟨-, -, -, hl, hh⟩ := (State.tableLaw_iff s).1 h.1
  obtain ⟨he, hk, -⟩ := (State.loadLaw_iff hc).1 hl
  have hk : ∀ k, s.context k = none := hk.elim (fun h => ((State.drained_iff s).1 (hd h)).2) id
  have hslot (i : SlotIdx) : s.cleared.slot i = Slot.blank := vector_get_replicate _ _
  have hb (c : Channel) : s.cleared.boundSlot c = none := by
    rw [State.boundSlot_eq, show s.cleared.entry c = MapEntry.blank from vector_get_replicate _ _]
    rfl
  refine ⟨(State.tableLaw_iff _).2 ⟨fun i => ?_, ?_, ?_, ?_, ?_⟩, fun _ => rfl⟩
  · rw [hslot, State.boundCount_eq_zero (by simp [hb]), State.pinCount_eq_zero (s := s.cleared) hk,
      State.editCount_eq_zero (s := s.cleared) he]
    exact Slot.lawful_blank
  · rw [State.entriesLaw, show s.cleared.edits = [] from he]
    exact ⟨by simp, by simp, by simp⟩
  · have : s.cleared.cellsUsed = 0 := by simp [State.cellsUsed, hslot, Slot.blank, blankContent]
    rw [State.cellLaw, this]
    rfl
  · exact (State.loadLaw_iff (l := { stage := .readA, installed := 0, lost := 0 }) rfl).2 ⟨he, .inr hk, hb⟩
  · exact State.holdLaw_of_load rfl (hh.trans ((State.isLoading_iff s).2 ⟨l, hc⟩))

/-- A load begins with no entry open (R161, R172). -/
theorem State.lawful.drain (h : s.lawful) (he : s.edits = [] ∨ s.held = true) :
    State.lawful { s with held := false, ctl := .loading { stage := .drain, installed := 0, lost := 0 }, hold := true } := by
  obtain ⟨hs, hes, hc, hl, hh⟩ := (State.tableLaw_iff s).1 h.1
  have he : s.edits = [] := he.elim id fun hd => by
    obtain ⟨l, hc⟩ := (State.isLoading_iff s).1 (h.2 hd)
    exact ((State.loadLaw_iff hc).1 hl).1
  exact ⟨(State.tableLaw_iff _).2 ⟨hs, hes, hc,
    (State.loadLaw_iff (l := { stage := .drain, installed := 0, lost := 0 }) rfl).2 ⟨he, .inl rfl, trivial⟩, rfl⟩,
    fun hd => by cases hd⟩

/-- An operation other than a load goes on, begins or ends. -/
theorem State.lawful.work (h : s.lawful) {c : Controller} (p : Option Transfer) (hs : ∀ l, s.ctl ≠ .loading l)
    (hn : ∀ l, c ≠ .loading l) : State.lawful { s with ctl := c, port := p } := by
  obtain ⟨hslots, hes, hc, hl, hh⟩ := (State.tableLaw_iff s).1 h.1
  have hload : s.isLoading = false := by
    rw [Bool.eq_false_iff, ne_eq, State.isLoading_iff]
    rintro ⟨l, hl⟩
    exact hs l hl
  exact ⟨(State.tableLaw_iff _).2 ⟨hslots, hes, hc, State.loadLaw_of_no_load hn,
    State.holdLaw_of_no_load hn (hh.trans hload)⟩, fun hd => absurd (h.2 hd) (by simp [hload])⟩

/-- A load goes on (R164, R165). -/
theorem State.lawful.load (h : s.lawful) {l l' : LoadState} (p : Option Transfer) (hc : s.ctl = .loading l)
    (hn : l.stage.Next l'.stage) : State.lawful { s with ctl := .loading l', port := p } := by
  obtain ⟨hs, hes, hcells, hl, hh⟩ := (State.tableLaw_iff s).1 h.1
  exact ⟨(State.tableLaw_iff _).2 ⟨hs, hes, hcells, hl.next hc hn,
    State.holdLaw_of_load rfl (hh.trans ((State.isLoading_iff s).2 ⟨l, hc⟩))⟩, fun _ => rfl⟩

/-- A load ends (R171). -/
theorem State.lawful.endLoad (h : s.lawful) (hd : s.held = false) : State.lawful { s with ctl := .idle, hold := false } := by
  obtain ⟨hs, hes, hcells, hl, hh⟩ := (State.tableLaw_iff s).1 h.1
  exact ⟨(State.tableLaw_iff _).2 ⟨hs, hes, hcells, State.loadLaw_of_no_load (by simp), rfl⟩,
    fun h => absurd h (by simp [hd])⟩

/-- A channel whose record is lost was not bound, and is not (R169). -/
theorem State.lawful.lose (h : s.lawful) {l : LoadState} {w : Walk} {c : Channel} (revision : Half)
    (hc : s.ctl = .loading l) (hw : l.stage.walk = some w) (hm : c ∈ w.expected :: w.later) :
    (s.markLost c revision).lawful := by
  refine State.lawful.of_view (s := s.setEntry c { binding := .lost, revision }) ?_ rfl
  obtain ⟨hs, hes, hcells, hl, hh⟩ := (State.tableLaw_iff s).1 h.1
  obtain ⟨-, -, -, hb⟩ := hl.walk hc hw
  have hbound (d : Channel) : (s.setEntry c { binding := .lost, revision }).boundSlot d = s.boundSlot d := by
    rw [State.boundSlot_setEntry]
    split
    case isTrue h => rw [h, hb c hm]; rfl
    case isFalse => rfl
  refine ⟨(State.tableLaw_iff _).2 ⟨fun i => ?_, hes, hcells, ?_, hh⟩, h.2⟩
  · have : (s.setEntry c { binding := .lost, revision }).boundCount i = s.boundCount i := by
      simp only [State.boundCount, hbound]
    rw [this]
    exact hs i
  · exact hl.mono rfl id id fun d hd => (hbound d).trans hd
/-- A load's record is installed in a FREE slot and its walk goes on (R168). -/
theorem State.lawful.install (h : s.lawful) {l : LoadState} {w : Walk} {i : SlotIdx} {content : Content} {c : Controller}
    {hold : Bool} (p : Option Transfer) (hc : s.ctl = .loading l) (hw : l.stage.walk = some w)
    (hch : content.channel = w.expected) (hi : (s.slot i).state = .free) (hcells : content.points.length ≤ s.freeCells)
    (hgo : w.Goes s c hold) :
    State.lawful { s.loadInstall i content with ctl := c, hold := hold, port := p } := by
  let X := installedSlot content (dueBy s.partTime content)
  let E : MapEntry := { binding := .bound i, revision := content.revision }
  refine State.lawful.of_view (s := { (s.setSlot i X).setEntry content.channel E with
    freeCells := s.freeCells - content.points.length, ctl := c, hold := hold, port := p }) ?_ ?_
  case refine_2 =>
    obtain ⟨h1, h2, h3, h4, h5, h6, h7, h8, h9, h10, h11⟩ := (State.view_eq_iff _ _).1 (s.loadInstall_view i content)
    exact (State.view_eq_iff _ _).2 ⟨h1, h2, h3, h4, h5, rfl, h7, rfl, rfl, h10, h11⟩
  obtain ⟨hs, hes, hcs, hl, hh⟩ := (State.tableLaw_iff s).1 h.1
  obtain ⟨he, hk, hnodup, hunbound⟩ := hl.walk hc hw
  obtain ⟨hblank, hb, hn, hpins⟩ := (hs i).of_free hi
  have hch0 : s.boundSlot content.channel = none := hunbound _ (by simp [hch])
  have hbound (d : Channel) : (s.setEntry content.channel E).boundSlot d = if d = content.channel then some i else s.boundSlot d :=
    s.boundSlot_setEntry content.channel E d
  have hload : hold = s.hold ∧ (∃ l', c = .loading l') ∨ hold = false ∧ c = .idle ∧ s.held = false := by
    cases hgo with
    | on => exact .inl ⟨rfl, _, rfl⟩
    | ends hd => exact .inr ⟨rfl, rfl, hd⟩
  refine ⟨(State.tableLaw_iff _).2 ⟨fun j => ?_, hes, ?_, ?_, ?_⟩, ?_⟩
  · have hcount : (s.setEntry content.channel E).boundCount j = s.boundCount j + if j = i then 1 else 0 := by
      have := s.boundCount_setEntry content.channel E j
      simpa [hch0, Binding.slot, E, eq_comm] using this
    show ((s.setSlot i X).slot j).Lawful ((s.setEntry content.channel E).boundCount j) (s.editCount j) (s.pinCount j)
    rw [hcount, State.slot_setSlot]
    split
    case isTrue hj => subst hj; rw [hb, hn, hpins]; exact installedSlot_lawful _ _
    case isFalse => exact hs j
  · have := s.cellsUsed_setSlot i X
    rw [hblank] at this
    show s.freeCells - content.points.length + (s.setSlot i X).cellsUsed = _
    have hX : X.content.points.length = content.points.length := rfl
    have h0 : Slot.blank.content.points.length = 0 := rfl
    rw [State.cellLaw] at hcs
    omega
  · cases hgo with
    | ends => exact State.loadLaw_of_no_load (by simp)
    | on hw' =>
      refine (State.loadLaw_iff (l := { stage := .head _, installed := _, lost := _ }) rfl).2 ⟨he, .inr hk, ?_, ?_⟩
      · rw [hw']; exact (List.nodup_cons.1 hnodup).2
      · intro d hd
        rw [hw'] at hd
        have hne : d ≠ content.channel := by
          rintro rfl
          exact (List.nodup_cons.1 hnodup).1 (hch ▸ hd)
        exact (hbound d).trans ((if_neg hne).trans (hunbound d (List.mem_cons_of_mem _ hd)))
  · obtain ⟨rfl, l', rfl⟩ | ⟨rfl, rfl, -⟩ := hload
    · exact State.holdLaw_of_load rfl (hh.trans ((State.isLoading_iff s).2 ⟨l, hc⟩))
    · rfl
  · obtain ⟨-, l', rfl⟩ | ⟨-, -, hd⟩ := hload
    · exact fun _ => rfl
    · exact fun h => absurd (show s.held = true from h) (by simp [hd])

/-- An entry is opened, with a slot and its cells or without (R55). -/
theorem State.lawful.opened (h : s.lawful) {c : Channel} {kind : EditKind} {taken : Option (SlotIdx × Content)}
    (hc : ∀ l, s.ctl ≠ .loading l) (hnew : s.findEdit c = none) (hm : s.edits.length < Config.maxEdits)
    (hk : kind = .retire ↔ taken = none)
    (ht : ∀ p ∈ taken, (s.slot p.1).state = .free ∧ p.2.points.length ≤ s.freeCells) :
    (s.openEntry c kind taken).state.lawful := by
  obtain ⟨hs, ⟨hr, hn, hlen⟩, hcs, hl, hh⟩ := (State.tableLaw_iff s).1 h.1
  have hedits : (s.openEntry c kind taken).state.edits = s.edits ++ [{ channel := c, kind, slot := taken.map Prod.fst }] := rfl
  have hcount (j : SlotIdx) : (s.openEntry c kind taken).state.editCount j =
      s.editCount j + if taken.map Prod.fst = some j then 1 else 0 := by
    rw [State.editCount, hedits, List.countP_append]
    simp only [State.editCount, List.countP_cons, List.countP_nil, beq_iff_eq, Nat.zero_add]
  have hentries : (s.openEntry c kind taken).state.entriesLaw := by
    rw [State.entriesLaw, hedits]
    refine ⟨?_, ?_, ?_⟩
    · intro e he
      obtain he | rfl := by simpa using he
      · exact hr e he
      · simpa using hk
    · rw [List.map_append, List.nodup_append]
      refine ⟨hn, by simp, ?_⟩
      simp only [List.mem_map, List.map_cons, List.map_nil, List.mem_singleton]
      rintro _ ⟨e, he, rfl⟩ d hd
      rw [hd]
      exact (State.findEdit_none_iff s c).1 hnew e he
    · simpa using hm
  cases taken with
  | none =>
    refine ⟨(State.tableLaw_iff _).2 ⟨fun j => ?_, hentries, hcs, State.loadLaw_of_no_load hc, hh⟩, h.2⟩
    rw [hcount j]
    exact hs j
  | some p =>
    obtain ⟨i, content⟩ := p
    obtain ⟨hi, hcells⟩ := ht _ rfl
    obtain ⟨hblank, hb, hn0, hpins⟩ := (hs i).of_free hi
    refine ⟨(State.tableLaw_iff _).2 ⟨fun j => ?_, hentries, ?_, State.loadLaw_of_no_load hc, hh⟩, h.2⟩
    · rw [hcount j, State.slot_openEntry]
      show Slot.Lawful _ (s.boundCount j) _ (s.pinCount j)
      split
      case isTrue hj =>
        subst hj
        rw [hb, hn0, hpins]
        exact ⟨rfl, by simp, rfl, by simp, by simp, by simp⟩
      case isFalse hj =>
        rw [if_neg (by simpa using Ne.symm hj)]
        exact hs j
    · have := s.cellsUsed_setSlot i { state := .staged, pins := 0, expired := false, content }
      rw [hblank] at this
      have h0 : Slot.blank.content.points.length = 0 := rfl
      show s.freeCells - content.points.length +
        (s.setSlot i { state := .staged, pins := 0, expired := false, content }).cellsUsed = _
      rw [State.cellLaw] at hcs
      simp only at this hcells
      omega

/-- The entries that are left keep their law. -/
theorem State.entriesLaw.rest {e : Entry} {rest : List Entry} (h : s.entriesLaw) (hp : s.edits.Perm (e :: rest))
    (ht : t.edits = rest) : t.entriesLaw := by
  obtain ⟨h1, h2, h3⟩ := h
  rw [State.entriesLaw, ht]
  refine ⟨fun d hd => h1 d (hp.mem_iff.2 (by simp [hd])), ?_, ?_⟩
  · have := (hp.map Entry.channel).nodup_iff.1 h2
    exact (List.nodup_cons.1 this).2
  · have := hp.length_eq
    simp only [List.length_cons] at this
    omega

/-- An entry is discarded (R11, R61, R62, R65). -/
theorem State.lawful.discard (h : s.lawful) {e : Entry} {rest : List Entry} (hp : s.edits.Perm (e :: rest)) :
    State.lawful { s.discard e with edits := rest } := by
  obtain ⟨hs, hes, hcs, hl, hh⟩ := (State.tableLaw_iff s).1 h.1
  have hn : ∀ l, s.ctl ≠ .loading l := hl.no_load_of_edits fun he => by simp [he] at hp
  have hcount (j : SlotIdx) := State.editCount_perm hp (t := { s with edits := rest }) rfl j
  have heq := s.discard_eq e
  have hcells := (s.discard_cells e).trans hcs
  have hctl : (s.discard e).ctl = s.ctl := by rw [heq]
  refine ⟨(State.tableLaw_iff _).2 ⟨fun j => ?_, hes.rest hp rfl, hcells, ?_, ?_⟩, ?_⟩
  · have hb : (s.discard e).boundCount j = s.boundCount j := State.boundCount_congr (by rw [heq]) j
    have hpin : (s.discard e).pinCount j = s.pinCount j := State.pinCount_congr (by rw [heq]) j
    show ((s.discard e).slot j).Lawful ((s.discard e).boundCount j) (State.editCount { s with edits := rest } j)
      ((s.discard e).pinCount j)
    have hc := hcount j
    rw [hb, hpin, State.slot_discard]
    split
    case isTrue hj =>
      rw [if_pos hj] at hc
      obtain ⟨hb0, he1, -⟩ := (hs j).of_named (by omega)
      rw [hb0, show State.editCount { s with edits := rest } j = 0 by omega]
      exact (hs j).released
    case isFalse hj =>
      rw [if_neg hj, Nat.add_zero] at hc
      exact hc ▸ hs j
  · exact State.loadLaw_of_no_load fun l h => hn l (hctl.symm.trans h)
  · exact hh.congr (by show (s.discard e).hold = _; rw [heq]) hctl
  · have : (s.discard e).held = s.held := by rw [heq]
    exact fun hd => absurd (h.2 (this.symm.trans hd)) (by
      rw [State.isLoading_iff]; rintro ⟨l, hl⟩; exact hn l hl)

/-- What an entry of an accepted commit binds its channel to: its staged slot, or none for RETIRE (R77, R79). -/
theorem State.boundSlot_applyEntry (s : State) (e : Entry) (c : Channel) :
    (s.applyEntry e).boundSlot c = if c = e.channel then e.slot else s.boundSlot c := by
  have hmap : (s.supersede e.channel).map = s.map := by rw [State.supersede_eq]
  rw [← State.boundSlot_congr hmap]
  unfold State.applyEntry
  cases he : e.slot with
  | none => exact State.boundSlot_setEntry _ e.channel _ c
  | some i => exact State.boundSlot_setEntry (State.setSlot _ i _) e.channel _ c

/-- The bindings to a slot after an entry is applied. -/
theorem State.boundCount_applyEntry (s : State) (e : Entry) (i : SlotIdx) :
    (s.applyEntry e).boundCount i + (if s.boundSlot e.channel = some i then 1 else 0) =
      s.boundCount i + if e.slot = some i then 1 else 0 := by
  have h := countP_finRange_change (fun c => s.boundSlot c == some i) (fun c => (s.applyEntry e).boundSlot c == some i)
    e.channel fun c hc => by rw [State.boundSlot_applyEntry, if_neg hc]
  simp only [State.boundSlot_applyEntry, beq_iff_eq, if_true] at h
  simpa only [State.boundCount, State.boundSlot_applyEntry] using h

/-- An applied entry moves cells to the pool and loses none (R20). -/
theorem State.applyEntry_cells (s : State) (e : Entry) :
    (s.applyEntry e).freeCells + (s.applyEntry e).cellsUsed = s.freeCells + s.cellsUsed := by
  have hfree : (s.applyEntry e).freeCells = (s.supersede e.channel).freeCells := by
    unfold State.applyEntry
    cases e.slot <;> rfl
  rw [hfree, ← s.supersede_cells e.channel, State.cellsUsed_congr (s := s.supersede e.channel) fun j => by
    rw [State.slot_applyEntry]
    split <;> rfl]

/-- An accepted commit applies one entry: a staged slot becomes the channel's, and the record it replaces is superseded
(R75 to R80). -/
theorem State.lawful.applyEntry (h : s.lawful) {e : Entry} {rest : List Entry} (he : s.edits = e :: rest) :
    State.lawful { s.applyEntry e with edits := rest } := by
  obtain ⟨hs, hes, hcs, hl, hh⟩ := (State.tableLaw_iff s).1 h.1
  have hn : ∀ l, s.ctl ≠ .loading l := hl.no_load_of_edits (by simp [he])
  have hperm : s.edits.Perm (e :: rest) := by rw [he]
  have heq := s.applyEntry_eq e
  have hctl : (s.applyEntry e).ctl = s.ctl := by rw [heq]
  refine ⟨(State.tableLaw_iff _).2 ⟨fun j => ?_, hes.rest hperm rfl, (s.applyEntry_cells e).trans hcs, ?_, ?_⟩, ?_⟩
  · have hb := s.boundCount_applyEntry e j
    have hc := State.editCount_perm hperm (t := { s with edits := rest }) rfl j
    have hpin : (s.applyEntry e).pinCount j = s.pinCount j := State.pinCount_congr (by rw [heq]) j
    show ((s.applyEntry e).slot j).Lawful ((s.applyEntry e).boundCount j) (State.editCount { s with edits := rest } j)
      ((s.applyEntry e).pinCount j)
    rw [hpin, State.slot_applyEntry, State.slot_supersede]
    by_cases hj : e.slot = some j
    · rw [if_pos hj] at hc hb ⊢
      obtain ⟨hb0, he1, -⟩ := (hs j).of_named (by omega)
      have hbound : s.boundSlot e.channel ≠ some j := fun hb => by
        have := State.boundCount_pos hb
        omega
      rw [if_neg hbound] at hb ⊢
      rw [show (s.applyEntry e).boundCount j = 1 by omega, show State.editCount { s with edits := rest } j = 0 by omega]
      exact (hs j).installedAs _ _
    · rw [if_neg hj] at hc hb ⊢
      by_cases hbound : s.boundSlot e.channel = some j
      · obtain ⟨hb1, he0, -⟩ := (hs j).of_bound (State.boundCount_pos hbound)
        rw [if_pos hbound] at hb ⊢
        rw [show (s.applyEntry e).boundCount j = 0 by omega, show State.editCount { s with edits := rest } j = 0 by omega]
        exact (hs j).released
      · rw [if_neg hbound] at hb ⊢
        rw [show (s.applyEntry e).boundCount j = s.boundCount j by omega,
          show State.editCount { s with edits := rest } j = s.editCount j by omega]
        exact hs j
  · exact State.loadLaw_of_no_load fun l h => hn l (hctl.symm.trans h)
  · exact hh.congr (by show (s.applyEntry e).hold = _; rw [heq]) hctl
  · have : (s.applyEntry e).held = s.held := by rw [heq]
    exact fun hd => absurd (h.2 (this.symm.trans hd)) (by
      rw [State.isLoading_iff]; rintro ⟨l, hl⟩; exact hn l hl)

/-- What an applied entry does does not depend on the edit set. -/
theorem State.applyEntry_edits (s : State) (e : Entry) (x : List Entry) :
    State.applyEntry { s with edits := x } e = { s.applyEntry e with edits := x } := by
  have hsup : State.supersede { s with edits := x } e.channel = { s.supersede e.channel with edits := x } := by
    unfold State.supersede
    show (match s.boundSlot e.channel with
      | some i => State.release { s with edits := x } i
      | none => { s with edits := x }) = _
    cases s.boundSlot e.channel with
    | none => rfl
    | some i => simp only [State.release_eq]; rfl
  unfold State.applyEntry
  rw [hsup]
  cases e.slot <;> rfl

/-- What holds of a state and is kept by each applied entry, the entry leaving the set, holds after an accepted commit. -/
theorem State.commit_keeps {inv : State → Prop}
    (hstep : ∀ s e rest, s.edits = e :: rest → inv s → inv { s.applyEntry e with edits := rest }) (es : List Entry) :
    ∀ s : State, s.edits = es → inv s → inv { es.foldl State.applyEntry s with edits := [] } := by
  induction es with
  | nil =>
    intro s he hs
    have : ({ s with edits := [] } : State) = s := by rw [← he]
    exact this ▸ hs
  | cons e es ih =>
    intro s he hs
    have h := ih _ rfl (hstep s e es he hs)
    have comm (ds : List Entry) : ∀ u : State, ds.foldl State.applyEntry { u with edits := es } =
        { ds.foldl State.applyEntry u with edits := es } := by
      induction ds with
      | nil => exact fun _ => rfl
      | cons d ds ih => exact fun u => by rw [List.foldl_cons, State.applyEntry_edits, ih]; rfl
    rw [comm] at h
    exact h

/-- A staged content is replaced, with the cells it needs (R56). -/
theorem State.lawful.stage (h : s.lawful) {e : Entry} {i : SlotIdx} {content : Content} {cells : Nat} (he : e ∈ s.edits)
    (hi : e.slot = some i) (hc : cells + content.points.length = s.freeCells + (s.slot i).content.points.length) :
    State.lawful { s.setSlot i { s.slot i with content } with freeCells := cells } := by
  refine h.slots rfl rfl rfl rfl rfl rfl ?_ fun j b e' p hj => ?_
  · have := s.cellsUsed_setSlot i { s.slot i with content }
    change _ = s.cellsUsed + content.points.length at this
    show cells + (s.setSlot i { s.slot i with content }).cellsUsed = _
    omega
  · show ((s.setSlot i { s.slot i with content }).slot j).Lawful b e' p
    rw [State.slot_setSlot]
    split
    case isTrue hji =>
      subst hji
      obtain ⟨hs, -⟩ := (State.tableLaw_iff s).1 h.1
      obtain ⟨-, -, hst⟩ := (hs j).of_named (State.editCount_pos he hi)
      exact ⟨hj.bound_eq, hj.edits_eq, hj.pins_eq, hj.draining, fun hf => by simp [hst] at hf, hj.staged⟩
    case isFalse => exact hj

/-- A mismatch marks an ACTIVE slot SUSPECT (R176). -/
theorem State.lawful.mismatch (h : s.lawful) {i : SlotIdx} (ha : (s.slot i).state = .active) : (s.mismatch i).lawful := by
  refine State.lawful.of_view (s := s.setSlot i { s.slot i with state := .suspect }) ?_ (s.mismatch_view i)
  refine h.slots rfl rfl rfl rfl rfl rfl ?_ fun j b e p hj => ?_
  · have := s.cellsUsed_setSlot i { s.slot i with state := .suspect }
    change _ = s.cellsUsed + (s.slot i).content.points.length at this
    show s.freeCells + (s.setSlot i { s.slot i with state := .suspect }).cellsUsed = _
    omega
  · rw [State.slot_setSlot]
    split
    case isTrue hji =>
      subst hji
      have hb := hj.bound_eq
      have he := hj.edits_eq
      rw [ha] at hb he
      exact ⟨hb, he, hj.pins_eq, by simp, by simp, by simp⟩
    case isFalse => exact hj

/-- A sweep flags ACTIVE and SUSPECT slots alone (R116). -/
theorem State.lawful.sweep (h : s.lawful) : s.sweep.lawful := by
  refine h.slots rfl rfl rfl rfl rfl rfl ?_ fun j b e p hj => ?_
  · rw [State.cellsUsed_congr (s := s) fun j => by rw [State.sweep_slot]; split <;> rfl]
    rfl
  · rw [State.sweep_slot]
    split
    case isTrue hf =>
      obtain ⟨hst, -⟩ := (Slot.falls_iff _ _).1 hf
      refine ⟨hj.bound_eq, hj.edits_eq, hj.pins_eq, hj.draining, fun h => ?_, fun h => ?_⟩
      · obtain hs | hs := hst <;> rw [hs] at h <;> cases h
      · obtain hs | hs := hst <;> rw [hs] at h <;> cases h
    case isFalse => exact hj

/-- An upset changes the content of a slot that is not FREE (R19). -/
theorem State.lawful.upset (h : s.lawful) (i : SlotIdx) (content : Content) : (s.upset i content).lawful := by
  have heq : s.upset i content = { s with slots := (s.upset i content).slots } := by
    unfold State.upset
    split <;> rfl
  refine h.slots (by rw [heq]) (by rw [heq]) (by rw [heq]) (by rw [heq]) (by rw [heq]) (by rw [heq]) ?_
    fun j b e p hj => ?_
  · rw [State.cellsUsed_congr (s := s) fun j => ?_, show (s.upset i content).freeCells = s.freeCells by rw [heq]]
    obtain h | ⟨-, hp, -, h⟩ := s.slot_upset i content j <;> rw [h]
    exact hp
  · obtain h | ⟨hf, -, -, h⟩ := s.slot_upset i content j
    · rwa [h]
    · rw [h]
      exact ⟨hj.bound_eq, hj.edits_eq, hj.pins_eq, hj.draining, fun h => absurd h hf, hj.staged⟩

/-- A repair installs its record in a FREE slot and supersedes the SUSPECT one (R185). -/
theorem State.lawful.repair (h : s.lawful) {r : RepairState} {i : SlotIdx} {content : Content} (hc : s.ctl = .repairing r)
    (hb : s.boundSlot r.target = some r.slot) (hsus : (s.slot r.slot).state = .suspect) (hi : (s.slot i).state = .free)
    (hcells : content.points.length ≤ s.freeCells) : (s.repairInstall r i content).lawful := by
  obtain ⟨hs, hes, hcs, hl, hh⟩ := (State.tableLaw_iff s).1 h.1
  have hne : r.slot ≠ i := by rintro rfl; rw [hsus] at hi; cases hi
  have hn : ∀ l, s.ctl ≠ .loading l := by simp [hc]
  let X := installedSlot content (s.slot r.slot).expired
  let E : MapEntry := { binding := .bound i, revision := (s.entry r.target).revision }
  let u : State := State.setEntry { s.setSlot i X with freeCells := s.freeCells - content.points.length } r.target E
  have heq : s.repairInstall r i content =
      { u.release r.slot with reasons := (s.repairInstall r i content).reasons } := rfl
  have hrel := u.release_eq r.slot
  refine State.lawful.of_view (s := u.release r.slot) ?_ (by rw [heq]; rfl)
  obtain ⟨hblank, hb0, he0, hp0⟩ := (hs i).of_free hi
  obtain ⟨hb1, he1, -⟩ := (hs r.slot).of_bound (State.boundCount_pos hb)
  have hslot (j : SlotIdx) : (u.release r.slot).slot j =
      if j = r.slot then (s.slot r.slot).released else if j = i then X else s.slot j :=
    s.slot_repairInstall r content hne j
  have hbound (j : SlotIdx) : (u.release r.slot).boundCount j + (if j = r.slot then 1 else 0) =
      s.boundCount j + if j = i then 1 else 0 := by
    have h := s.boundCount_setEntry r.target E j
    rw [State.boundCount_congr (s := s.setEntry r.target E) (by rw [hrel]; rfl)]
    simpa only [hb, Binding.slot, E, Option.some.injEq, eq_comm] using h
  have hedit (j : SlotIdx) : (u.release r.slot).editCount j = s.editCount j := State.editCount_congr (by rw [hrel]; rfl) j
  have hpin (j : SlotIdx) : (u.release r.slot).pinCount j = s.pinCount j := State.pinCount_congr (by rw [hrel]; rfl) j
  have hctl : (u.release r.slot).ctl = s.ctl := by rw [hrel]; rfl
  refine ⟨(State.tableLaw_iff _).2 ⟨fun j => ?_, ?_, ?_, State.loadLaw_of_no_load (hctl ▸ hn), ?_⟩, ?_⟩
  · have hbj := hbound j
    rw [hslot, hedit, hpin]
    by_cases h1 : j = r.slot
    · subst h1
      rw [if_pos rfl, if_neg hne] at hbj
      rw [if_pos rfl, he1, show (u.release r.slot).boundCount r.slot = 0 by omega]
      exact (hs r.slot).released
    · rw [if_neg h1] at hbj ⊢
      by_cases h2 : j = i
      · subst h2
        rw [if_pos rfl] at hbj ⊢
        rw [he0, hp0, show (u.release r.slot).boundCount j = 1 by omega]
        exact installedSlot_lawful _ _
      · rw [if_neg h2] at hbj ⊢
        rw [show (u.release r.slot).boundCount j = s.boundCount j by omega]
        exact hs j
  · rw [State.entriesLaw, show (u.release r.slot).edits = s.edits by rw [hrel]; rfl]
    exact hes
  · rw [State.cellLaw, u.release_cells]
    have h := s.cellsUsed_setSlot i X
    rw [hblank] at h
    change _ + 0 = s.cellsUsed + content.points.length at h
    show s.freeCells - content.points.length + (s.setSlot i X).cellsUsed = _
    rw [State.cellLaw] at hcs
    omega
  · exact hh.congr (by rw [hrel]; rfl) hctl
  · have : (u.release r.slot).held = s.held := by rw [hrel]; rfl
    exact fun hd => absurd (h.2 (this.symm.trans hd)) (by
      rw [State.isLoading_iff]; rintro ⟨l, hl⟩; exact hn l hl)

/-- A grant pins a slot that is not FREE (R14, R100, R107). -/
theorem State.lawful.begin (h : s.lawful) {k : CtxIdx} {l : Lookup} (hh : s.hold = false) (hk : s.context k = none)
    (hp : s.mayPin l) : (s.begin k l).lawful := by
  obtain ⟨hs, hes, hcs, hl, hhold⟩ := (State.tableLaw_iff s).1 h.1
  have hn := hhold.no_load hh
  have heq := s.begin_eq k l
  have hctl : (s.begin k l).ctl = s.ctl := by rw [heq]; rfl
  refine ⟨(State.tableLaw_iff _).2 ⟨fun j => ?_, ?_, ?_, State.loadLaw_of_no_load (hctl ▸ hn), ?_⟩, ?_⟩
  · have hc := s.pinCount_setContext k (some l) j
    rw [State.pinnedBy, hk] at hc
    change _ + 0 = s.pinCount j + (if l.pinned = some j then 1 else 0) at hc
    rw [State.boundCount_congr (s := s) (by rw [heq]; rfl), State.editCount_congr (s := s) (by rw [heq]; rfl),
      State.pinCount_congr (s := s.setContext k (some l)) (by rw [heq]), State.slot_begin]
    split
    case isTrue hj =>
      rw [if_pos hj] at hc
      rw [show (s.setContext k (some l)).pinCount j = s.pinCount j + 1 by omega]
      refine (hs j).pinned fun hf => ?_
      obtain ⟨-, hb0, he0, -⟩ := (hs j).of_free hf
      obtain h | ⟨c, hc⟩ | ⟨-, q, -, -, e, he, hes⟩ := hp
      · rw [h] at hj; cases hj
      · have := State.boundCount_pos (hc.trans hj); omega
      · have := State.editCount_pos he (hes.trans hj); omega
    case isFalse hj =>
      rw [if_neg hj] at hc
      rw [show (s.setContext k (some l)).pinCount j = s.pinCount j by omega]
      exact hs j
  · rw [State.entriesLaw, show (s.begin k l).edits = s.edits by rw [heq]; rfl]
    exact hes
  · rw [State.cellLaw, State.cellsUsed_congr (s := s) fun j => by rw [State.slot_begin]; split <;> rfl,
      show (s.begin k l).freeCells = s.freeCells by rw [heq]; rfl]
    exact hcs
  · exact hhold.congr (by rw [heq]; rfl) hctl
  · have : (s.begin k l).held = s.held := by rw [heq]; rfl
    exact fun hd => absurd (h.2 (this.symm.trans hd)) (by
      rw [State.isLoading_iff]; rintro ⟨l, hl⟩; exact hn l hl)

/-- The end of a lookup moves cells to the pool and loses none (R15, R17). -/
theorem State.endLookup_cells (s : State) (k : CtxIdx) (l : Lookup) :
    (s.endLookup k l).freeCells + (s.endLookup k l).cellsUsed = s.freeCells + s.cellsUsed := by
  unfold State.endLookup
  cases l.pinned with
  | none => rfl
  | some i =>
    have h := s.cellsUsed_setSlot i (s.slot i).unpinned
    simp only [State.unpin_eq]
    show s.freeCells + _ + (s.setSlot i (s.slot i).unpinned).cellsUsed = _
    unfold Slot.unpinned at h ⊢
    split
    case isTrue hd =>
      rw [if_pos hd] at h
      change _ = s.cellsUsed + 0 at h
      omega
    case isFalse hd =>
      rw [if_neg hd] at h
      change _ = s.cellsUsed + (s.slot i).content.points.length at h
      omega

/-- A lookup ends (R101). -/
theorem State.lawful.endLookup (h : s.lawful) {k : CtxIdx} {l : Lookup} (hk : s.context k = some l) :
    (s.endLookup k l).lawful := by
  obtain ⟨hs, hes, hcs, hl, hhold⟩ := (State.tableLaw_iff s).1 h.1
  have heq := s.endLookup_eq k l
  have hctl : (s.endLookup k l).ctl = s.ctl := by rw [heq]; rfl
  have hctx (j : CtxIdx) : (s.endLookup k l).context j = (s.setContext k none).context j := by rw [heq]; rfl
  refine ⟨(State.tableLaw_iff _).2 ⟨fun j => ?_, ?_, (s.endLookup_cells k l).trans hcs, ?_, ?_⟩, ?_⟩
  · have hc := s.pinCount_setContext k none j
    rw [State.pinnedBy, hk] at hc
    change _ + (if l.pinned = some j then 1 else 0) = s.pinCount j + 0 at hc
    rw [State.boundCount_congr (s := s) (by rw [heq]; rfl), State.editCount_congr (s := s) (by rw [heq]; rfl),
      State.pinCount_congr (s := s.setContext k none) (by rw [heq]), State.slot_endLookup]
    split
    case isTrue hj =>
      rw [if_pos hj] at hc
      have := hs j
      rw [show s.pinCount j = (s.setContext k none).pinCount j + 1 by omega] at this
      exact this.unpinned
    case isFalse hj =>
      rw [if_neg hj] at hc
      rw [show (s.setContext k none).pinCount j = s.pinCount j by omega]
      exact hs j
  · rw [State.entriesLaw, show (s.endLookup k l).edits = s.edits by rw [heq]; rfl]
    exact hes
  · refine hl.mono hctl (fun he => ?_) (fun hk j => ?_) fun c hb => ?_
    · rw [heq]; exact he
    · rw [hctx]
      by_cases hj : j = k
      · rw [hj, State.context_setContext_same]
      · rw [State.context_setContext_other _ _ _ _ hj, hk]
    · rw [State.boundSlot_congr (s := s) (by rw [heq]; rfl), hb]
  · exact hhold.congr (by rw [heq]; rfl) hctl
  · rw [State.heldLaw, State.isLoading, hctl, show (s.endLookup k l).held = s.held by rw [heq]; rfl]
    exact h.2

/-- The number of points of a record read is at most the count that its head gives (R165). -/
theorem decodeRecord_points_le (head tail : List Byte) :
    (decodeRecord head tail).points.length ≤ (decodeHead head).count := by
  simp [decodeRecord]

/-- Every move keeps the law of the record store. -/
theorem Move.lawful (hm : Move s₀ s t) (h : s.lawful) : t.lawful := by
  cases hm with
  | quiet e => exact h.of_view e
  | work hs hc => exact h.work _ hs hc
  | port => exact h.slots rfl rfl rfl rfl rfl rfl rfl fun _ _ _ _ => id
  | drain he => exact h.drain he
  | clear hc hd => exact h.cleared hc hd
  | load hc hn => exact h.load _ hc hn
  | endLoad _ hd => exact h.endLoad hd
  | lose hc hw hm => exact h.lose _ hc hw hm
  | @install l w i head tail _ _ _ hc hl _ _ hi _ hgo =>
    obtain ⟨hcells, hfree⟩ := State.room_free hi
    refine h.install _ hc hl.walk ?_ hfree ((decodeRecord_points_le head tail).trans hcells) hgo
    obtain ⟨-, ht⟩ | hl := hl
    · simp only [headTrusted, Bool.and_eq_true, beq_iff_eq] at ht
      exact ht.1.1
    · obtain ⟨-, -, -, hlaw, -⟩ := (State.tableLaw_iff s).1 h.1
      obtain ⟨-, -, hst⟩ := (State.loadLaw_iff hc).1 hlaw
      rw [hl] at hst
      exact hst.2
  | opened hc _ hnew hm hk ht =>
    exact h.opened hc hnew hm hk fun p hp => ⟨State.free_of_lowestFree (ht p hp).1, (ht p hp).2.2.1⟩
  | stage _ he hi hc => exact h.stage he hi hc
  | discard hp => exact h.discard hp
  | commit => exact State.commit_keeps (fun _ _ _ he h => h.applyEntry he) s.edits s rfl h
  | mismatch ha => exact h.mismatch ha
  | sweep => exact h.sweep
  | upset => exact h.upset _ _
  | @repair r i head tail hc hb hs _ _ hi =>
    obtain ⟨hcells, hfree⟩ := State.room_free hi
    exact h.repair hc hb hs hfree ((decodeRecord_points_le head tail).trans hcells)

/-- Every turn keeps the law of the record store. -/
theorem Turn.lawful (ht : Turn s₀ s t) (h : s.lawful) : t.lawful := by
  have probe {u : State} (h : u.lawful) (q : Probe) (r : Response) : State.lawful { u with probe := q, response := r } :=
    h.slots rfl rfl rfl rfl rfl rfl rfl fun _ _ _ _ => id
  cases ht with
  | laneGrant _ hh hk _ _ hp => exact h.begin hh hk hp
  | probeGrant _ hh hk _ _ _ hp => exact probe (h.begin hh hk hp) _ _
  | lookupEnd hk => exact h.endLookup hk
  | probeEnd hk => exact probe (h.endLookup hk) _ _
  | answer => exact probe h s.probe _
  | accept => exact probe h _ _
  | withdraw => exact probe h _ _
  | @drop contexts r hc =>
    refine probe (u := { s with contexts := contexts }) ?_ _ _
    obtain ⟨hs, hes, hcs, hl, hh⟩ := (State.tableLaw_iff s).1 h.1
    have hpin (j : SlotIdx) : State.pinCount { s with contexts := contexts } j = s.pinCount j := by
      refine List.countP_congr fun k _ => ?_
      have : State.pinnedBy { s with contexts := contexts } k = s.pinnedBy k := by
        unfold State.pinnedBy
        show (contexts.get k).bind Lookup.pinned = _
        obtain h | ⟨h, -⟩ := hc k
        · rw [h]; cases s.context k <;> rfl
        · rw [h]
      rw [this]
    refine ⟨(State.tableLaw_iff _).2 ⟨fun j => ?_, hes, hcs, ?_, hh⟩, h.2⟩
    · show (s.slot j).Lawful (s.boundCount j) (s.editCount j) _
      rw [hpin]
      exact hs j
    · refine hl.mono rfl id (fun hk k => ?_) fun _ => id
      show contexts.get k = none
      obtain h | ⟨h, -⟩ := hc k <;> rw [h, hk k]
      rfl
  | reset e => exact State.reset_lawful.of_view e

/-- Every step keeps the law of the record store, and that of a held device. -/
theorem step_lawful (h : s.lawful) (hstep : step s = .next t) : t.lawful :=
  (step_run hstep).keeps h (fun _ _ hm => hm.lawful) (fun _ _ ht => ht.lawful)

/-- Settles O55: each elementary change of a step keeps the law of the record store and that of a held device. -/
theorem tableLawIsKept : Obligations.TableLawIsKept := fun _ _ h hstep => step_lawful h hstep

end

end Sys2Proof.Machine

namespace Sys2Proof.Machine

section
variable {s₀ s t : State}

/-! ### The law of the pending probe -/

/-- A context's lookup is that of the pending probe: the host's, not to be dropped (R106, R110). -/
def probeLookup (l : Option Lookup) : Bool := l.any fun l => l.requester == .host && !l.drop

/-- The contexts of the pending probe after one context was replaced. -/
theorem State.probeContexts_setContext (s : State) (k : CtxIdx) (l : Option Lookup) :
    (s.setContext k l).probeContexts + (if probeLookup (s.context k) then 1 else 0) =
      s.probeContexts + if probeLookup l then 1 else 0 := by
  have h := countP_finRange_change (fun j => probeLookup (s.context j)) (fun j => probeLookup ((s.setContext k l).context j)) k
    fun j hj => by rw [State.context_setContext_other _ _ _ _ hj]
  rw [State.context_setContext_same] at h
  exact h

/-- The law of the probe is a law of the lookups, the probe and the status. -/
theorem State.probeLaw.congr (h : s.probeLaw) (h1 : t.contexts = s.contexts) (h2 : t.probe = s.probe)
    (h3 : t.response.status = s.response.status) : t.probeLaw := by
  have : t.probeContexts = s.probeContexts := by simp [State.probeContexts, State.context, h1]
  rw [State.probeLaw, h2, h3, this]
  exact h

/-- Without a pending probe no context is a probe's. -/
theorem State.probeLaw.no_lookup (h : s.probeLaw) (hp : s.probe ≠ .inFlight) (k : CtxIdx) :
    probeLookup (s.context k) = false := by
  have h0 : s.probeContexts = 0 := by rw [h.2, if_neg hp]
  simpa [probeLookup] using List.countP_eq_zero.1 h0 k (List.mem_finRange k)

/-- Where no probe is pending the law asks for a settled buffer and no context of a probe. -/
theorem State.probeLaw_of_none (hp : s.probe = .none) (hst : s.response.status ≠ .pending)
    (hc : ∀ k, probeLookup (s.context k) = false) : s.probeLaw := by
  refine ⟨by simp [hp, hst], ?_⟩
  rw [hp, if_neg (by simp)]
  exact List.countP_eq_zero.2 fun k _ => by simpa [probeLookup] using hc k

/-- Every turn keeps the law of the probe. -/
theorem Turn.probeLaw (ht : Turn s₀ s t) (h : s.probeLaw) : t.probeLaw := by
  have granted (k : CtxIdx) (l : Lookup) (hk : s.context k = none) :
      (s.begin k l).probeContexts = s.probeContexts + if probeLookup (some l) then 1 else 0 := by
    have hc := s.probeContexts_setContext k (some l)
    rw [hk] at hc
    exact (by rw [State.begin_eq]; rfl : (s.begin k l).probeContexts = (s.setContext k (some l)).probeContexts).trans hc
  have ended (k : CtxIdx) (l : Lookup) (hk : s.context k = some l) :
      (s.endLookup k l).probeContexts + (if probeLookup (some l) then 1 else 0) = s.probeContexts := by
    have hc := s.probeContexts_setContext k none
    rw [hk] at hc
    rw [State.endLookup_eq]
    exact hc
  obtain ⟨hst, hcount⟩ := h
  cases ht with
  | @laneGrant k l n _ _ hk _ hn =>
    have hg := granted k l hk
    rw [show probeLookup (some l) = false by simp [probeLookup, hn]] at hg
    have hp : (s.begin k l).probe = s.probe := by rw [State.begin_eq]; rfl
    refine ⟨?_, hg.trans (hcount.trans (by rw [hp]))⟩
    rw [hp, State.begin_eq]
    exact hst
  | @probeGrant k l q _ _ hk hd hr hp =>
    have hg := granted k l hk
    rw [show probeLookup (some l) = true by simp [probeLookup, hr, hd]] at hg
    rw [hp] at hcount hst
    refine ⟨?_, hg.trans (by rw [hcount]; rfl)⟩
    show (s.begin k l).response.status = _ ↔ _
    rw [State.begin_eq]
    exact ⟨fun _ => by simp, fun _ => hst.2 (by simp)⟩
  | @lookupEnd k l hk hd =>
    have he := ended k l hk
    have hl : probeLookup (some l) = false := by
      by_cases hr : l.requester = .host
      · simp [probeLookup, hd hr]
      · simp [probeLookup, hr]
    rw [hl] at he
    have hp : (s.endLookup k l).probe = s.probe := by rw [State.endLookup_eq]; rfl
    refine ⟨?_, (show (s.endLookup k l).probeContexts = s.probeContexts from he).trans (hcount.trans (by rw [hp]))⟩
    rw [hp, State.endLookup_eq]
    exact hst
  | @probeEnd k l r hk hr hd hrs =>
    have he := ended k l hk
    rw [show probeLookup (some l) = true by simp [probeLookup, hr, hd]] at he
    refine ⟨by simp [hrs], ?_⟩
    show (s.endLookup k l).probeContexts = _
    rw [if_pos rfl, hcount] at he
    split at he <;> simp <;> omega
  | answer hp hrs => exact ⟨by simp [hrs, hp], hcount⟩
  | accept hp hrs =>
    rw [hp] at hcount
    exact ⟨by simp [hrs], hcount⟩
  | withdraw hp hrs =>
    rw [hp] at hcount
    exact ⟨by simp [hrs], hcount⟩
  | @drop contexts r hc hrs =>
    refine State.probeLaw_of_none rfl hrs fun k => ?_
    show probeLookup (contexts.get k) = false
    obtain h | ⟨h, hr⟩ := hc k
    · rw [h]; cases s.context k <;> simp [probeLookup]
    · rw [h]
      cases hk : s.context k with
      | none => rfl
      | some l => simp [probeLookup, hr l hk]
  | reset e =>
    obtain ⟨h1, h2, h3⟩ := engine_of_view e
    refine State.probeLaw.congr (State.probeLaw_of_none rfl ?_ fun k => ?_) h1 h2 h3
    · simp [State.reset, Response.reset]
    · rw [State.context_reset]; rfl

/-- No move touches the lookups, the probe or the status. -/
theorem Move.probeLaw (hm : Move s₀ s t) (h : s.probeLaw) : t.probeLaw :=
  let ⟨hcontexts, hprobe, hstatus⟩ := hm.engine_eq
  h.congr hcontexts hprobe hstatus

/-! ### The lists that completions read -/

/-- What a completion will read and deliver: a slot that a lookup not to be dropped pins, or that the waiting probe was
accepted for and an entry still names (R4, R44, R107). -/
def State.delivers (s : State) (i : SlotIdx) : Prop :=
  (∃ k l, s.context k = some l ∧ l.pinned = some i ∧ l.drop = false) ∨
    ∃ q, s.probe = .waiting q ∧ q.staged = some i ∧ ∃ e ∈ s.edits, e.slot = some i

/-- What the law of the lists read says of one slot. -/
def State.slotRead (s : State) (i : SlotIdx) : Prop :=
  (s.slot i).content.stated = true ∧
    ((s.slot i).state.installed = true ∨ s.delivers i → 2 ≤ (s.slot i).content.points.length)

/-- Only the host's lookup, of those not to be dropped, pins a STAGED slot (R107). -/
def State.hostLaw (s : State) : Prop :=
  ∀ k l i, s.context k = some l → l.pinned = some i → l.drop = false → (s.slot i).state = .staged → l.requester = .host

/-- The law of the lists read, slot by slot. -/
theorem State.readLaw_iff (s : State) : s.readLaw ↔ (∀ i, s.slotRead i) ∧ s.hostLaw ∧ s.ctl.fits s.port := by
  constructor
  · rintro ⟨h1, h2, h3, h4, h5⟩
    refine ⟨fun i => ⟨h1 i, ?_⟩, fun k l i hk hi hd => (h3 k l hk i hi hd).2, fun head hh t ht hf => ?_⟩
    · rintro (h | ⟨k, l, hk, hi, hd⟩ | ⟨q, hq, hi, he⟩)
      · exact h2 i h
      · exact (h3 k l hk i hi hd).1
      · exact h4 q i hq hi he
    · split at h5
      case h_1 hc => rw [hc] at hh; cases hh; exact h5 t ht hf
      case h_2 hc => rw [hc] at hh; cases hh; exact h5 t ht hf
      case h_3 hl hr =>
        unfold Controller.tailHead at hh
        split at hh
        case h_1 hc => exact absurd hc (hl _ _ _ _)
        case h_2 hc => exact absurd hc (hr _ _ _ _)
        case h_3 => cases hh
  · rintro ⟨h1, h2, h3⟩
    refine ⟨fun i => (h1 i).1, fun i h => (h1 i).2 (.inl h),
      fun k l hk i hi hd => ⟨(h1 i).2 (.inr (.inl ⟨k, l, hk, hi, hd⟩)), h2 k l i hk hi hd⟩,
      fun q i hq hi he => (h1 i).2 (.inr (.inr ⟨q, hq, hi, he⟩)), ?_⟩
    split
    case h_1 hc => exact fun t ht hf => h3 _ (by rw [hc]; rfl) t ht hf
    case h_2 hc => exact fun t ht hf => h3 _ (by rw [hc]; rfl) t ht hf
    case h_3 => trivial

/-- A FREE slot is read by no completion. -/
theorem State.lawful.not_delivers_of_free (h : s.lawful) {i : SlotIdx} (hf : (s.slot i).state = .free) :
    ¬ s.delivers i := by
  obtain ⟨hs, -⟩ := (State.tableLaw_iff s).1 h.1
  obtain ⟨-, -, he, hp⟩ := (hs i).of_free hf
  rintro (⟨k, l, hk, hi, -⟩ | ⟨q, -, -, e, hm, hi⟩)
  · have := State.pinCount_pos hk hi
    omega
  · have := State.editCount_pos hm hi
    omega

/-- While no probe is pending a STAGED slot is read by no completion. -/
theorem State.hostLaw.not_delivers_of_staged (h : s.hostLaw) (hpl : s.probeLaw) (hp : s.probe = .none) {i : SlotIdx}
    (hst : (s.slot i).state = .staged) : ¬ s.delivers i := by
  rintro (⟨k, l, hk, hi, hd⟩ | ⟨q, hq, -⟩)
  · have := hpl.no_lookup (by simp [hp]) k
    simp [hk, probeLookup, h k l i hk hi hd hst, hd] at this
  · rw [hp] at hq
    cases hq

/-- How a slot may change so that the lists read keep their law: its list and its content's values stay and it is neither
installed nor staged anew; or it is FREE now; or no completion reads it, and its new content is as good. -/
inductive SlotChange (s : State) (i : SlotIdx) (sl : Slot) : Prop
  | kept : sl.content.points.length = (s.slot i).content.points.length →
      ((s.slot i).content.stated = true → sl.content.stated = true) →
      (sl.state.installed = true → (s.slot i).state.installed = true) →
      (sl.state = .staged → (s.slot i).state = .staged) → SlotChange s i sl
  | blank : sl = Slot.blank → SlotChange s i sl
  | unread : ¬ s.delivers i → sl.content.stated = true → (sl.state.installed = true → 2 ≤ sl.content.points.length) →
      SlotChange s i sl

/-- A slot that keeps its content and its state. -/
theorem SlotChange.of_eq {i : SlotIdx} {sl : Slot} (hc : sl.content = (s.slot i).content) (hs : sl.state = (s.slot i).state) :
    SlotChange s i sl :=
  .kept (by rw [hc]) (by rw [hc]; exact id) (by rw [hs]; exact id) (by rw [hs]; exact id)

/-- A slot that stays as it is. -/
theorem SlotChange.refl {i : SlotIdx} : SlotChange s i (s.slot i) := .of_eq rfl rfl

/-- A slot that is released keeps its content, or becomes FREE. -/
theorem SlotChange.released {i : SlotIdx} : SlotChange s i (s.slot i).released := by
  unfold Slot.released
  split
  case isTrue => exact .blank rfl
  case isFalse => exact .kept rfl id (by simp [SlotState.installed]) (by simp)

/-- A slot that is unpinned keeps its content and its state, or becomes FREE. -/
theorem SlotChange.unpinned {i : SlotIdx} : SlotChange s i (s.slot i).unpinned := by
  unfold Slot.unpinned
  split
  case isTrue => exact .blank rfl
  case isFalse => exact .of_eq rfl rfl

/-- The blank content holds stated values. -/
theorem blankContent_stated : blankContent.stated = true := by decide

/-- Where nothing is looked up anew and each slot changes so, the lists read keep their law. -/
theorem State.readLaw.change (h : s.readLaw) (ht : t.lawful)
    (hlook : ∀ k l, t.context k = some l → l.drop = false → s.context k = some l)
    (hprobe : ∀ q, t.probe = .waiting q → s.probe = .waiting q ∧ ∀ e ∈ t.edits, e ∈ s.edits)
    (hfit : t.ctl.fits t.port) (hslot : ∀ i, SlotChange s i (t.slot i)) : t.readLaw := by
  obtain ⟨hs, hhost, -⟩ := (State.readLaw_iff s).1 h
  have hdel (i : SlotIdx) (hd : t.delivers i) : s.delivers i := by
    obtain ⟨k, l, hk, hi, hd⟩ | ⟨q, hq, hi, e, he, hei⟩ := hd
    · exact .inl ⟨k, l, hlook k l hk hd, hi, hd⟩
    · obtain ⟨hq, hes⟩ := hprobe q hq
      exact .inr ⟨q, hq, hi, e, hes e he, hei⟩
  refine (State.readLaw_iff t).2 ⟨fun i => ?_, fun k l i hk hi hd hst => ?_, hfit⟩
  · obtain ⟨hst, hlen⟩ := hs i
    obtain ⟨h1, h2, h3, -⟩ | hb | ⟨hn, h1, h2⟩ := hslot i
    · exact ⟨h2 hst, fun hr => h1 ▸ hlen (hr.imp h3 (hdel i))⟩
    · refine ⟨by rw [hb]; exact blankContent_stated, fun hr => ?_⟩
      obtain hr | hr := hr
      · rw [hb] at hr; cases hr
      · exact absurd hr (ht.not_delivers_of_free (by rw [hb]; rfl))
    · exact ⟨h1, fun hr => hr.elim h2 fun hr => absurd (hdel i hr) hn⟩
  · have hks := hlook k l hk hd
    obtain ⟨-, -, -, h4⟩ | hb | ⟨hn, -, -⟩ := hslot i
    · exact hhost k l i hks hi hd (h4 hst)
    · rw [hb] at hst; cases hst
    · exact absurd (.inl ⟨k, l, hks, hi, hd⟩) hn

/-! ### Records of the store -/

/-- A byte string holds one point for each five bytes. -/
theorem pointsOfBytes_length (n : Nat) (bs : List Byte) (h : bs.length = 5 * n) : (pointsOfBytes bs).length = n := by
  induction n generalizing bs with
  | zero => rw [List.length_eq_zero_iff.1 (by omega : bs.length = 0)]; rfl
  | succ n ih =>
    obtain _ | ⟨a, _ | ⟨b, _ | ⟨c, _ | ⟨d, _ | ⟨e, rest⟩⟩⟩⟩⟩ := bs <;> simp only [List.length_cons, List.length_nil] at h <;>
      try omega
    rw [pointsOfBytes, List.length_cons, ih rest (by omega)]

/-- A record that passes the field checks holds stated values (R167). -/
theorem decodeRecord_stated {head tail : List Byte} (h : fieldsValid head tail = true) :
    (decodeRecord head tail).stated = true := by
  simp only [fieldsValid, Bool.and_eq_true, decide_eq_true_eq, bne_iff_ne] at h
  obtain ⟨⟨⟨⟨⟨⟨⟨⟨⟨h1, h2⟩, h3⟩, h4⟩, -⟩, -⟩, -⟩, h5⟩, -⟩, -⟩ := h
  refine (Content.stated_iff _).2 ⟨(decodeRecord_points_le head tail).trans h2, ?_, h4, h5⟩
  simp only [decodeRecord, List.length_take]
  omega

/-- A record whose tail has the length its head gives holds at least 2 points (R167). -/
theorem decodeRecord_points {head tail : List Byte} (h : fieldsValid head tail = true)
    (hl : tail.length = (decodeHead head).tailLength) : 2 ≤ (decodeRecord head tail).points.length := by
  simp only [fieldsValid, Bool.and_eq_true, decide_eq_true_eq] at h
  have h2 : 2 ≤ (decodeHead head).count := by
    obtain ⟨⟨⟨⟨⟨⟨⟨⟨⟨h1, -⟩, -⟩, -⟩, -⟩, -⟩, -⟩, -⟩, -⟩, -⟩ := h
    exact h1
  have hp := pointsOfBytes_length (decodeHead head).count (tail.drop (decodeHead head).labelLen) (by
    simp only [List.length_drop, hl, RecordHead.tailLength]
    omega)
  simp only [decodeRecord, List.length_take, hp]
  omega

/-! ### Moves and turns keep the law of the lists read -/

/-- The laws that together keep the lists read (R4, R44). -/
def State.readable (s : State) : Prop := s.lawful ∧ s.probeLaw ∧ s.readLaw

/-- Where an operation, the lookups and the probe stay and no entry comes, it is enough to look at each slot. -/
theorem State.readLaw.slots (h : s.readLaw) (ht : t.lawful) (h1 : t.contexts = s.contexts) (h2 : t.probe = s.probe)
    (h3 : s.probe = .none ∨ ∀ e ∈ t.edits, e ∈ s.edits) (hfit : t.ctl.fits t.port) (hslot : ∀ i, SlotChange s i (t.slot i)) :
    t.readLaw := by
  refine h.change ht (fun k l hk _ => by rwa [State.context, h1] at hk) (fun q hq => ?_) hfit hslot
  rw [h2] at hq
  exact ⟨hq, h3.resolve_left (by simp [hq])⟩

/-- An accepted commit applies one entry whose staged record has passed validation (R71, R77). -/
theorem State.readable.applyEntry (h : s.readable) (hp : s.probe = .none) {e : Entry} {rest : List Entry}
    (he : s.edits = e :: rest) (hv : ∀ i, e.slot = some i → 2 ≤ (s.slot i).content.points.length) :
    State.readable { s.applyEntry e with edits := rest } := by
  obtain ⟨hl, hpl, hr⟩ := h
  obtain ⟨hs, hhost, hfit⟩ := (State.readLaw_iff s).1 hr
  obtain ⟨hslots, -⟩ := (State.tableLaw_iff s).1 hl.1
  have heq := s.applyEntry_eq e
  have hlt := hl.applyEntry he
  have hctx : (s.applyEntry e).contexts = s.contexts := by rw [heq]
  have hprobe : (s.applyEntry e).probe = s.probe := by rw [heq]
  refine ⟨hlt, hpl.congr hctx hprobe (by show (s.applyEntry e).response.status = _; rw [heq]), ?_⟩
  refine hr.slots hlt hctx hprobe (.inl hp) ?_ fun j => ?_
  · show (s.applyEntry e).ctl.fits (s.applyEntry e).port
    rw [heq]; exact hfit
  · have hslot := s.slot_applyEntry e j
    rw [State.slot_supersede] at hslot
    by_cases hj : e.slot = some j
    · obtain ⟨hb0, -, hst⟩ := (hslots j).of_named (State.editCount_pos (by simp [he]) hj)
      have hbound : s.boundSlot e.channel ≠ some j := fun hb => by
        have := State.boundCount_pos hb
        omega
      rw [if_pos hj, if_neg hbound] at hslot
      refine .unread (hhost.not_delivers_of_staged hpl hp hst) ?_ fun _ => ?_
      · show ((s.applyEntry e).slot j).content.stated = true
        rw [hslot]
        exact (hs j).1
      · show 2 ≤ ((s.applyEntry e).slot j).content.points.length
        rw [hslot]
        exact hv j hj
    · rw [if_neg hj] at hslot
      split at hslot
      case isTrue => exact hslot ▸ .released
      case isFalse => exact hslot ▸ .refl

/-- An accepted commit applies all its entries (R75). -/
theorem State.readable.commit (h : s.readable) (hp : s.probe = .none) (hv : ∀ e ∈ s.edits, s.validateEntry e = none) :
    State.readable { s.edits.foldl State.applyEntry s with edits := [] } := by
  refine (State.commit_keeps (inv := fun s => s.readable ∧ s.probe = .none ∧
    ∀ e ∈ s.edits, ∀ i, e.slot = some i → 2 ≤ (s.slot i).content.points.length) ?_ s.edits s rfl ⟨h, hp, ?_⟩).1
  · rintro s e rest he ⟨h, hp, hv⟩
    refine ⟨h.applyEntry hp he fun i hi => hv e (by simp [he]) i hi, ?_, fun d hd i hi => ?_⟩
    · show (s.applyEntry e).probe = .none
      rw [State.applyEntry_eq]; exact hp
    · have hd : d ∈ rest := hd
      obtain ⟨hslots, -⟩ := (State.tableLaw_iff s).1 h.1.1
      obtain ⟨hlt, -⟩ := (State.tableLaw_iff _).1 (h.1.applyEntry he).1
      obtain ⟨hb0, -⟩ := (hslots i).of_named (State.editCount_pos (by simp [he, hd]) hi)
      obtain ⟨-, -, hst⟩ := (hlt i).of_named (State.editCount_pos hd hi)
      have hbound : s.boundSlot e.channel ≠ some i := fun hb => by
        have := State.boundCount_pos hb
        omega
      have hslot := s.slot_applyEntry e i
      rw [State.slot_supersede, if_neg hbound] at hslot
      have hst : ((s.applyEntry e).slot i).state = .staged := hst
      have hne : e.slot ≠ some i := fun hei => by
        rw [hslot, if_pos hei] at hst
        cases hst
      rw [if_neg hne] at hslot
      show 2 ≤ ((s.applyEntry e).slot i).content.points.length
      rw [hslot]
      exact hv d (by simp [he, hd]) i hi
  · intro e he i hi
    have := hv e he
    simp only [State.validateEntry, hi, validateContent] at this
    by_contra hlt
    rw [if_pos (by omega)] at this
    cases this

/-- A record that a load installs takes a slot that was FREE (R168). -/
theorem State.lawful.slotChange_loadInstall (h : s.lawful) {i : SlotIdx} {content : Content} (hi : (s.slot i).state = .free)
    (hst : content.stated = true) (hlen : 2 ≤ content.points.length) (j : SlotIdx) :
    SlotChange s j ((s.loadInstall i content).slot j) := by
  rw [State.slot_loadInstall]
  split
  case isTrue hj => subst hj; exact .unread (h.not_delivers_of_free hi) hst fun _ => hlen
  case isFalse => exact .refl

/-- A record that a repair installs takes a slot that was FREE, and the SUSPECT slot is released (R185). -/
theorem State.lawful.slotChange_repairInstall (h : s.lawful) {r : RepairState} {i : SlotIdx} {content : Content}
    (hsus : (s.slot r.slot).state = .suspect) (hi : (s.slot i).state = .free) (hst : content.stated = true)
    (hlen : 2 ≤ content.points.length) (j : SlotIdx) : SlotChange s j ((s.repairInstall r i content).slot j) := by
  have hne : r.slot ≠ i := by rintro rfl; rw [hsus] at hi; cases hi
  rw [s.slot_repairInstall r content hne]
  split
  case isTrue hj => subst hj; exact .released
  case isFalse =>
    split
    case isTrue hj => subst hj; exact .unread (h.not_delivers_of_free hi) hst fun _ => hlen
    case isFalse => exact .refl

/-- An Open Edit stages its content in a slot that was FREE (R55). -/
theorem State.lawful.slotChange_openEntry (h : s.lawful) {c : Channel} {kind : EditKind} {i : SlotIdx} {content : Content}
    (hi : (s.slot i).state = .free) (hst : content.stated = true) (j : SlotIdx) :
    SlotChange s j ((s.openEntry c kind (some (i, content))).state.slot j) := by
  rw [State.slot_openEntry]
  split
  case isTrue hj => subst hj; exact .unread (h.not_delivers_of_free hi) hst (by simp [SlotState.installed])
  case isFalse => exact .refl

/-- A content command writes a STAGED slot, which no completion reads while no probe is pending (R56, R107). -/
theorem State.readable.slotChange_stage (h : s.readable) (hp : s.probe = .none) {e : Entry} {i : SlotIdx} {content : Content}
    (he : e ∈ s.edits) (hi : e.slot = some i) (hst : content.stated = true) (j : SlotIdx) :
    SlotChange s j ((s.setSlot i { s.slot i with content }).slot j) := by
  obtain ⟨hl, hpl, hr⟩ := h
  obtain ⟨-, hhost, -⟩ := (State.readLaw_iff s).1 hr
  obtain ⟨hslots, -⟩ := (State.tableLaw_iff s).1 hl.1
  obtain ⟨-, -, hstaged⟩ := (hslots i).of_named (State.editCount_pos he hi)
  rw [State.slot_setSlot]
  split
  case isTrue hj =>
    subst hj
    exact .unread (hhost.not_delivers_of_staged hpl hp hstaged) hst (by simp [hstaged, SlotState.installed])
  case isFalse => exact .refl

/-- An entry discarded releases its slot (R11). -/
theorem SlotChange.discard (e : Entry) (j : SlotIdx) : SlotChange s j ((s.discard e).slot j) := by
  rw [State.slot_discard]
  split
  case isTrue => exact .released
  case isFalse => exact .refl

/-- A mismatch marks an ACTIVE slot SUSPECT (R176). -/
theorem SlotChange.mismatch {i : SlotIdx} (ha : (s.slot i).state = .active) (j : SlotIdx) :
    SlotChange s j ((s.mismatch i).slot j) := by
  rw [State.slot_mismatch]
  split
  case isTrue hj => subst hj; exact .kept rfl id (by simp [ha, SlotState.installed]) (by simp)
  case isFalse => exact .refl

/-- A sweep sets expired flags alone (R116). -/
theorem SlotChange.sweep (j : SlotIdx) : SlotChange s j (s.sweep.slot j) := by
  rw [State.sweep_slot]
  split
  case isTrue => exact .of_eq rfl rfl
  case isFalse => exact .refl

/-- An upset leaves the number of points and stated values (R19). -/
theorem SlotChange.upset (i : SlotIdx) (content : Content) (j : SlotIdx) : SlotChange s j ((s.upset i content).slot j) := by
  obtain h | ⟨-, hp, hst, h⟩ := s.slot_upset i content j <;> rw [h]
  · exact .refl
  · exact .kept hp (fun _ => hst) id id

/-- Every move keeps the law of the lists read, where the transfer that the port held as the step began fits. -/
theorem Move.readLaw (hm : Move s₀ s t) (h₀ : s₀.ctl.fits s₀.port) (h : s.readable) : t.readLaw := by
  have ht := hm.lawful h.1
  obtain ⟨hl, hpl, hr⟩ := h
  obtain ⟨hs, -, hfit⟩ := (State.readLaw_iff s).1 hr
  cases hm with
  | quiet e =>
    obtain ⟨-, h2, -, h4, h5, -, -, h8, h9, h10, -⟩ := (State.view_eq_iff s t).1 e
    refine hr.slots ht h5 h10 (.inr (by simp [h4])) (by rwa [h8, h9]) fun i => ?_
    rw [State.slot, h2]
    exact .refl
  | work _ _ hf => exact hr.slots ht rfl rfl (.inr fun _ => id) (hf hfit) fun _ => .refl
  | port hf => exact hr.slots ht rfl rfl (.inr fun _ => id) (hf hfit) fun _ => .refl
  | drain => exact hr.slots ht rfl rfl (.inr fun _ => id) (Controller.fits_of_no_tail rfl _) fun _ => .refl
  | clear =>
    exact hr.slots ht rfl rfl (.inr fun _ => id) (Controller.fits_of_no_tail rfl _) fun i => .blank (vector_get_replicate _ _)
  | load _ _ hf => exact hr.slots ht rfl rfl (.inr fun _ => id) hf fun _ => .refl
  | endLoad => exact hr.slots ht rfl rfl (.inr fun _ => id) (Controller.fits_of_no_tail rfl _) fun _ => .refl
  | lose => exact hr.slots ht rfl rfl (.inr fun _ => id) hfit fun _ => .refl
  | @install l w i head tail c hold p _ _ hv hlen hi _ _ hf =>
    obtain ⟨-, -, -, h4, h5, -, -, -, -, h10, -⟩ := (State.view_eq_iff _ _).1 (s.loadInstall_view i (decodeRecord head tail))
    exact hr.slots ht h5 h10 (.inr fun e (he : e ∈ (s.loadInstall i _).edits) => h4 ▸ he) hf
      (hl.slotChange_loadInstall (State.room_free hi).2 (decodeRecord_stated hv) (decodeRecord_points hv (hlen h₀)))
  | @opened c kind taken hn hp _ _ _ htaken =>
    cases taken with
    | none => exact hr.slots ht rfl rfl (.inl hp) hfit fun _ => .refl
    | some q =>
      obtain ⟨i, content⟩ := q
      obtain ⟨hi, -, -, hsrc⟩ := htaken _ rfl
      have hst : content.stated = true := by
        obtain rfl | ⟨k, rfl⟩ := hsrc
        · exact blankContent_stated
        · exact (hs k).1
      exact hr.slots ht rfl rfl (.inl hp) hfit (hl.slotChange_openEntry (State.free_of_lowestFree hi) hst)
  | @stage e i content cells hp he hi _ hst =>
    exact hr.slots ht rfl rfl (.inl hp) hfit (State.readable.slotChange_stage ⟨hl, hpl, hr⟩ hp he hi (hst (hs i).1))
  | @discard e rest hperm =>
    have heq := s.discard_eq e
    refine hr.slots ht ?_ ?_ (.inr fun d hd => hperm.mem_iff.2 (List.mem_cons_of_mem _ hd)) ?_ (SlotChange.discard e)
    · show (s.discard e).contexts = _; rw [heq]
    · show (s.discard e).probe = _; rw [heq]
    · show (s.discard e).ctl.fits (s.discard e).port; rw [heq]; exact hfit
  | commit hp hv => exact (State.readable.commit ⟨hl, hpl, hr⟩ hp hv).2.2
  | @mismatch i ha =>
    obtain ⟨-, -, -, h4, h5, -, -, h8, h9, h10, -⟩ := (State.view_eq_iff _ _).1 (s.mismatch_view i)
    exact hr.slots ht h5 h10 (.inr (by rw [h4]; exact fun _ => id)) (by rw [h8, h9]; exact hfit) (SlotChange.mismatch ha)
  | sweep => exact hr.slots ht rfl rfl (.inr fun _ => id) hfit SlotChange.sweep
  | @upset i content =>
    have heq : s.upset i content = { s with slots := (s.upset i content).slots } := by
      unfold State.upset
      split <;> rfl
    exact hr.slots ht (by rw [heq]) (by rw [heq]) (.inr (by rw [heq]; exact fun _ => id)) (by rw [heq]; exact hfit)
      (SlotChange.upset i content)
  | @repair r i head tail _ _ hsus hv hlen hi _ =>
    have hview : (s.repairInstall r i (decodeRecord head tail)).view =
        State.view { s with
          map := (s.repairInstall r i (decodeRecord head tail)).map
          slots := (s.repairInstall r i (decodeRecord head tail)).slots
          freeCells := (s.repairInstall r i (decodeRecord head tail)).freeCells } := by
      simp [State.repairInstall, State.release_eq, State.view]
    obtain ⟨-, -, -, h4, h5, -, -, h8, h9, h10, -⟩ := (State.view_eq_iff _ _).1 hview
    exact hr.slots ht h5 h10 (.inr (by rw [h4]; exact fun _ => id)) (by rw [h8, h9]; exact hfit)
      (hl.slotChange_repairInstall hsus (State.room_free hi).2 (decodeRecord_stated hv) (decodeRecord_points hv (hlen h₀)))

/-- A grant begins a lookup of a list of at least 2 points (R100, R107). -/
theorem State.readable.begin (h : s.readable) {k : CtxIdx} {l : Lookup} (hp : s.mayPin l) : (s.begin k l).readLaw := by
  obtain ⟨hl, -, hr⟩ := h
  obtain ⟨hs, hhost, hfit⟩ := (State.readLaw_iff s).1 hr
  obtain ⟨hslots, -⟩ := (State.tableLaw_iff s).1 hl.1
  have heq := s.begin_eq k l
  have hctx {j : CtxIdx} {l' : Lookup} (hj : (s.begin k l).context j = some l') : l' = l ∨ s.context j = some l' := by
    rw [heq] at hj
    have hj : (s.setContext k (some l)).context j = some l' := hj
    by_cases hjk : j = k
    · rw [hjk, State.context_setContext_same] at hj
      exact .inl (Option.some.inj hj).symm
    · rw [State.context_setContext_other _ _ _ _ hjk] at hj
      exact .inr hj
  have hpin {i : SlotIdx} (hi : l.pinned = some i) :
      (s.slot i).state.installed = true ∨ s.delivers i ∧ l.requester = .host := by
    obtain h | ⟨c, hc⟩ | ⟨hr, q, hq, hqi, e, he, hei⟩ := hp
    · rw [h] at hi; cases hi
    · exact .inl ((hslots i).of_bound (State.boundCount_pos (hc.trans hi))).2.2
    · exact .inr ⟨.inr ⟨q, hq, hqi.trans hi, e, he, hei.trans hi⟩, hr⟩
  have hslot (i : SlotIdx) : ((s.begin k l).slot i).content = (s.slot i).content ∧
      ((s.begin k l).slot i).state = (s.slot i).state := by
    rw [State.slot_begin]
    split <;> exact ⟨rfl, rfl⟩
  have hprobe : (s.begin k l).probe = s.probe := by rw [heq]; rfl
  have hedits : (s.begin k l).edits = s.edits := by rw [heq]; rfl
  refine (State.readLaw_iff _).2 ⟨fun i => ⟨?_, fun hd => ?_⟩, fun j l' i hj hi hd hst => ?_, ?_⟩
  · rw [(hslot i).1]; exact (hs i).1
  · rw [(hslot i).1]
    refine (hs i).2 ?_
    obtain hd | ⟨j, l', hj, hi, hd⟩ | ⟨q, hq, hi, he⟩ := hd
    · exact .inl ((hslot i).2 ▸ hd)
    · obtain rfl | hj := hctx hj
      · exact (hpin hi).imp_right And.left
      · exact .inr (.inl ⟨j, l', hj, hi, hd⟩)
    · exact .inr (.inr ⟨q, hprobe ▸ hq, hi, hedits ▸ he⟩)
  · rw [(hslot i).2] at hst
    obtain rfl | hj := hctx hj
    · obtain h | h := hpin hi
      · rw [hst] at h; cases h
      · exact h.2
    · exact hhost j l' i hj hi hd hst
  · rw [heq]; exact hfit

/-- Every turn keeps the law of the lists read. -/
theorem Turn.readLaw (ht : Turn s₀ s t) (h : s.readable) : t.readLaw := by
  have hlt := ht.lawful h.1
  obtain ⟨hl, hpl, hr⟩ := h
  obtain ⟨hs, hhost, hfit⟩ := (State.readLaw_iff s).1 hr
  have ended (k : CtxIdx) (l : Lookup) (hk : s.context k = some l) : (s.endLookup k l).readLaw := by
    have heq := s.endLookup_eq k l
    refine hr.change (hl.endLookup hk) (fun j l' hj _ => ?_) (fun q hq => ?_) (by rw [heq]; exact hfit) fun j => ?_
    · rw [heq] at hj
      have hj : (s.setContext k none).context j = some l' := hj
      by_cases hjk : j = k
      · rw [hjk, State.context_setContext_same] at hj; cases hj
      · rwa [State.context_setContext_other _ _ _ _ hjk] at hj
    · rw [heq] at hq ⊢
      exact ⟨hq, fun _ => id⟩
    · rw [State.slot_endLookup]
      split
      case isTrue => exact .unpinned
      case isFalse => exact .refl
  have probe {u : State} (hu : u.readLaw) (hlu : u.lawful) (q : Probe) (r : Response) (hq : ∀ p, q ≠ .waiting p) :
      State.readLaw { u with probe := q, response := r } :=
    hu.change (hlu.slots rfl rfl rfl rfl rfl rfl rfl fun _ _ _ _ => id) (fun _ _ hk _ => hk)
      (fun p hp => absurd hp (hq p)) ((State.readLaw_iff u).1 hu).2.2 fun _ => .refl
  cases ht with
  | laneGrant _ _ _ _ _ hp => exact State.readable.begin ⟨hl, hpl, hr⟩ hp
  | probeGrant _ hh hk _ _ _ hp => exact probe (State.readable.begin ⟨hl, hpl, hr⟩ hp) (hl.begin hh hk hp) _ _ (by simp)
  | lookupEnd hk => exact ended _ _ hk
  | probeEnd hk => exact probe (ended _ _ hk) (hl.endLookup hk) _ _ (by simp)
  | answer hp => exact probe hr hl s.probe _ (by simp [hp])
  | @accept q r hp _ hq =>
    refine (State.readLaw_iff _).2 ⟨fun i => ⟨(hs i).1, fun hd => ?_⟩, hhost, hfit⟩
    obtain hd | ⟨k, l, hk, hi, hd⟩ | ⟨q', hq', hi, -⟩ := hd
    · exact (hs i).2 (.inl hd)
    · exact (hs i).2 (.inr (.inl ⟨k, l, hk, hi, hd⟩))
    · cases hq'
      exact hq i hi
  | withdraw => exact probe hr hl _ _ (by simp)
  | @drop contexts r hc =>
    refine hr.change hlt (fun k l hk hd => ?_) (by simp) hfit fun _ => .refl
    have hk : contexts.get k = some l := hk
    obtain h | ⟨h, -⟩ := hc k
    · rw [h] at hk
      obtain ⟨l', -, rfl⟩ := Option.map_eq_some_iff.1 hk
      cases hd
    · exact h.symm.trans hk
  | reset e =>
    obtain ⟨-, h2, -, h4, h5, -, -, h8, h9, h10, -⟩ := (State.view_eq_iff _ _).1 e
    refine hr.change hlt (fun k l hk _ => ?_) (fun q hq => ?_) (by rw [h8, h9]; exact Controller.fits_of_no_tail rfl _)
      fun i => .blank ?_
    · rw [State.context, h5] at hk
      rw [show State.reset.contexts.get k = none from State.context_reset k] at hk
      cases hk
    · rw [h10] at hq; cases hq
    · rw [State.slot, h2]; exact State.slot_reset i

/-- Settles O58: the laws of the record store, of a held device and of the probe, and with them that of the lists read, are
kept by each elementary change of a step. -/
theorem deliveredListsHoldTwoPoints : Obligations.DeliveredListsHoldTwoPoints := by
  intro s t ⟨htable, hheld, hprobe, hread⟩ hstep
  have hfit := ((State.readLaw_iff s).1 hread).2.2
  obtain ⟨⟨h1, h2⟩, h3, h4⟩ := (step_run hstep).keeps (inv := State.readable) ⟨⟨htable, hheld⟩, hprobe, hread⟩
    (fun _ _ hm h => ⟨hm.lawful h.1, hm.probeLaw h.2.1, hm.readLaw hfit h⟩)
    (fun _ _ ht h => ⟨ht.lawful h.1, ht.probeLaw h.2.1, ht.readLaw h⟩)
  exact ⟨h1, h2, h3, h4⟩

end

end Sys2Proof.Machine

namespace Sys2Proof.Machine

section
variable {s : State}

/-! ### Read Map Entry (R26) and upsets (R19) -/

/-- Read Map Entry, heard, answers the kind, the slot number and the revision (R26). -/
theorem exec_readMapEntry (h : s.hears) (c : Channel) :
    exec (.readMapEntry c) s = .next (s.answered .readMapEntry .ok
      ([bindingCode (s.entry c).binding, bindingSlotByte (s.entry c).binding] ++ be16 (s.entry c).revision)) :=
  congrArg Host.Outcome.next (State.takeFrame_heard h _ _)

/-- Settles O20: the binding codes and slot bytes of the three kinds. -/
theorem readMapEntryReportsTheEntry : Obligations.ReadMapEntryReportsTheEntry := by
  intro c s h
  rw [exec_readMapEntry h]
  exact ⟨fun i hb => by rw [hb]; rfl, fun hb => by rw [hb]; rfl, fun hb => by rw [hb]; rfl⟩

/-- Settles O34: the two branches of the upset. -/
theorem upsetAltersOneContent : Obligations.UpsetAltersOneContent := by
  intro i c s
  refine ⟨fun hs hl hc => congrArg Host.Outcome.next (if_pos ⟨hs, hl, hc⟩), fun h => congrArg Host.Outcome.next (if_neg ?_)⟩
  rintro ⟨hs, hl, -⟩
  exact h.elim hs (· hl)

/-! ### The resets -/

/-- No lookup of the reset state is any lane's. -/
theorem State.laneLaw_reset : State.reset.laneLaw := by
  intro n
  have hc : State.reset.laneContexts n = 0 := by simp [State.laneContexts]
  rw [State.lane_reset, hc]
  exact ⟨rfl, by decide, by decide⟩

/-- The reset thresholds are 1 in every lane (R195). -/
theorem State.controlLaw_reset : State.reset.controlLaw :=
  fun n => (by decide : ∀ n, 1 ≤ (Control.default.threshold.get n).toNat ∧ (Control.default.threshold.get n).toNat ≤ 8) n

/-- Every slot blank, no lookup in flight and no probe: nothing that a completion would read (R4, R44). -/
theorem State.readLaw_reset : State.reset.readLaw := by
  refine ⟨fun i => ?_, fun i hi => ?_, fun k l hk => ?_, fun q _ hq => ?_, trivial⟩
  · rw [State.slot_reset]; exact blankContent_stated
  · rw [State.slot_reset] at hi; cases hi
  · rw [State.context_reset] at hk; cases hk
  · cases hq

/-- Settles O60. -/
theorem resetMeetsTheLaws : Obligations.ResetMeetsTheLaws := by
  obtain ⟨htable, hheld⟩ := State.reset_lawful
  have hprobe : State.reset.probeLaw :=
    State.probeLaw_of_none rfl (by simp [State.reset, Response.reset]) fun k => by rw [State.context_reset]; rfl
  have hlease : State.reset.leaseLaw := ⟨⟨fun _ => rfl, fun _ => rfl⟩, trivial⟩
  have htimer : State.reset.timerLaw := ⟨by simp [State.reset], by simp [State.reset], .inl rfl⟩
  have hqueue : State.reset.queueLaw := ⟨Nat.zero_le _, List.nodup_nil, Nat.zero_le _⟩
  have hqueued : State.reset.queuedLaw := by simp [State.queuedLaw, State.reset]
  exact ⟨htable, hheld, State.laneLaw_reset, hprobe, hlease, htimer, State.controlLaw_reset, hqueue, hqueued, Mem.wf_nil,
    trivial, State.readLaw_reset⟩

/-- A page write that a reset or a silence cuts leaves every address outside its bytes as it was (R153). -/
theorem Mem.read_cutWrite_outside (m : Mem) (a : Nat) (bytes : List Byte) (x : Nat)
    (hfit : a + bytes.length ≤ Config.storeBytes) (hx : x < a ∨ a + bytes.length ≤ x) :
    Mem.read (Mem.cutWrite m a bytes) x = Mem.read m x := by
  rw [Mem.cutWrite]
  split
  · rfl
  · exact Mem.read_writeBytes_outside m a bytes x hfit hx

/-- A reset leaves the store as it is where no page write is in progress. -/
theorem State.storeAfterCut_of_read (s : State) (torn : List Byte) (h : ∀ p ∈ s.port, ∃ n, p.kind = .read n) :
    s.storeAfterCut torn = s.store := by
  unfold State.storeAfterCut
  split
  · next hp => simpa using h _ hp
  · rfl

/-- A reset that cuts a page write leaves the bytes outside it as they are (R137, R153). -/
theorem State.storeAfterCut_outside (s : State) (torn : List Byte) {p : Transfer} {data : List Byte} (hp : p ∈ s.port)
    (hk : p.kind = .write data) (hfit : p.address + data.length ≤ Config.storeBytes) {a : Nat}
    (ha : a < p.address ∨ p.address + data.length ≤ a) :
    Mem.read (s.storeAfterCut torn) a = Mem.read s.store a := by
  have htake : (torn.take data.length).length ≤ data.length := List.length_take_le _ _
  have hcut : s.storeAfterCut torn = Mem.cutWrite s.store p.address (torn.take data.length) := by
    obtain ⟨address, kind, finishing, ticks⟩ := p
    cases hk
    rw [State.storeAfterCut, hp]
  rw [hcut]
  exact Mem.read_cutWrite_outside _ _ _ _ (by omega) (by omega)

/-- Every slot of the reset state is FREE (R24). -/
theorem State.freeSlots_reset : State.reset.freeSlots = 128 := by
  have h : ∀ i ∈ List.finRange 128, (State.reset.slot i).state == .free := by simp [Slot.blank]
  rw [State.freeSlots, List.countP_eq_length.2 h, List.length_finRange]

/-- Nothing requests attention after a reset. -/
theorem State.attn_reset : State.reset.attn = false := by
  have hreasons : ∀ c ∈ List.finRange 256, ¬ (State.reset.reasonsOf c &&& State.reset.control.reasonMask != 0#5) = true := by
    simp
  rw [State.attn, List.any_eq_false.2 hreasons]
  rfl

/-- Settles O3: both events are one reset. -/
theorem resetsEmptyTheDeviceAndKeepTheStore : Obligations.ResetsEmptyTheDeviceAndKeepTheStore := by
  refine ⟨fun torn s => ⟨s.hardReset torn, rfl, rfl, State.entry_reset, fun i => ?_, State.freeSlots_reset, rfl, rfl, rfl, rfl,
    State.context_reset, rfl, rfl, State.lane_reset, rfl, rfl, State.reasonsOf_reset, rfl, State.attn_reset, rfl, rfl, rfl,
    rfl, rfl, rfl, rfl, rfl, rfl, rfl, ?_, rfl, rfl, rfl, rfl⟩, fun torn s t ht => ?_⟩
  · have h := State.slot_reset i
    exact ⟨congrArg Slot.state h, congrArg Slot.pins h, congrArg Slot.expired h⟩
  · exact (rfl : Control.default = _)
  · have ht : t = s.hardReset torn := ht.elim (fun h => (Host.Outcome.next.inj h).symm) fun h => (Host.Outcome.next.inj h).symm
    subst ht
    exact ⟨s.storeAfterCut_of_read torn, fun p hp data hk hfit a ha => s.storeAfterCut_outside torn hp hk hfit ha⟩

/-! ### Read Record and Read Points (R27, R28) -/

/-- A label of at most 15 characters stands in its field with 00h up to the sixteenth byte (R204). -/
theorem labelField_eq {label : List Byte} (h : label.length ≤ 15) :
    labelField label = label ++ List.replicate (16 - label.length) 0#8 := by
  rw [labelField, List.take_append, List.take_of_length_le (by omega), List.take_replicate, Nat.min_eq_left (by omega)]

/-- The selector of the installed record (R27). -/
theorem State.selectRecord_active (s : State) (c : Channel) :
    s.selectRecord c 0#8 = match s.boundSlot c with | some i => .ok (.active, i) | none => .error .wrongState := rfl

/-- The selector of the staged record (R27). -/
theorem State.selectRecord_staged (s : State) (c : Channel) {e : Entry} (he : s.findEdit c = some e) :
    s.selectRecord c 1#8 = match e.slot with | some i => .ok (.staged, i) | none => .error .wrongState := by
  simp only [State.selectRecord, whichOfCode, he, reduceIte]
  rfl

/-- The staged record of a channel without an entry cannot be selected (R27). -/
theorem State.selectRecord_no_entry (s : State) (c : Channel) (he : s.findEdit c = none) :
    s.selectRecord c 1#8 = .error .notInEdit := by
  simp [State.selectRecord, whichOfCode, he]

/-- Any other selector is refused (R27). -/
theorem State.selectRecord_other (s : State) (c : Channel) {which : Byte} (h : 1 < which.toNat) :
    s.selectRecord c which = .error .badParam := by
  have h0 : which ≠ 0#8 := by rintro rfl; simp at h
  have h1 : which ≠ 1#8 := by rintro rfl; simp at h
  simp [State.selectRecord, whichOfCode, h0, h1]

/-- Read Record and Read Points, heard, refuse where the selector does (R27, R28). -/
theorem exec_read_refused (h : s.hears) {c : Channel} {which : Byte} (start count : Byte) {st : Status}
    (hsel : s.selectRecord c which = .error st) :
    exec (.readRecord c which) s = .next (s.answered .readRecord st []) ∧
      exec (.readPoints c which start count) s = .next (s.answered .readPoints st []) := by
  have hsel : s.count.selectRecord c which = .error st := hsel
  refine ⟨congrArg Host.Outcome.next ((State.takeFrame_heard h _ _).trans ?_),
    congrArg Host.Outcome.next ((State.takeFrame_heard h _ _).trans ?_)⟩
  · rw [readRecord, hsel]; rfl
  · rw [readPoints, hsel]; rfl

/-- Read Record, heard, where the selector names a slot (R27). -/
theorem exec_readRecord_ok (h : s.hears) {c : Channel} {which : Byte} {w : Which} {i : SlotIdx}
    (hsel : s.selectRecord c which = .ok (w, i)) :
    exec (.readRecord c which) s = .next (s.answered .readRecord .ok (recordBytes w i (s.slot i))) := by
  have hsel : s.count.selectRecord c which = .ok (w, i) := hsel
  refine congrArg Host.Outcome.next ((State.takeFrame_heard h _ _).trans ?_)
  rw [readRecord, hsel]
  rfl

/-- Read Points, heard, where the selector names a slot: a count of 1 to 12 that stays within the list is answered with
the points as stored (R28). -/
theorem exec_readPoints_ok (h : s.hears) {c : Channel} {which : Byte} (start count : Byte) {w : Which} {i : SlotIdx}
    (hsel : s.selectRecord c which = .ok (w, i)) :
    exec (.readPoints c which start count) s = .next
      (if count.toNat = 0 ∨ 12 < count.toNat ∨ (s.slot i).content.points.length < start.toNat + count.toNat then
        s.answered .readPoints .badParam []
      else s.answered .readPoints .ok
        ((((s.slot i).content.points.drop start.toNat).take count.toNat).flatMap pointBytes)) := by
  have hsel : s.count.selectRecord c which = .ok (w, i) := hsel
  refine congrArg Host.Outcome.next ((State.takeFrame_heard h _ _).trans ?_)
  rw [readPoints, hsel]
  exact apply_ite (Answer.respond · CommandCode.readPoints) _ _ _

/-- Settles O21: the selector's cases, and for a slot the bytes of its record and points. -/
theorem readRecordAndPointsReportTheSlot : Obligations.ReadRecordAndPointsReportTheSlot := by
  intro c which start count s h refused points record
  have select_refused (st : Status) (hsel : s.selectRecord c which = .error st) : refused st :=
    exec_read_refused h start count hsel
  have select_points (w : Which) (i : SlotIdx) (hsel : s.selectRecord c which = .ok (w, i)) : points i := by
    have hrun := exec_readPoints_ok h start count hsel
    have hzero : count.toNat = 0 ↔ count = 0#8 := by simp [← BitVec.toNat_inj]
    refine ⟨fun hbad => hrun.trans ?_, fun h0 h12 hlen => hrun.trans ?_⟩
    · rw [if_pos (by rwa [hzero])]
    · rw [if_neg (by rw [hzero]; exact not_or.2 ⟨h0, by omega⟩)]
      rfl
  refine ⟨fun hw => select_refused _ (s.selectRecord_other c hw), ?_, ?_⟩
  · rintro rfl
    have hact := s.selectRecord_active c
    refine ⟨fun hno => select_refused _ ?_, fun i hi => ?_⟩
    · rw [hact, Option.eq_none_iff_forall_ne_some.2 fun i => mt (s.boundSlot_iff c i).1 (hno i)]
    · rw [(s.boundSlot_iff c i).2 hi] at hact
      refine ⟨select_points _ i hact, fun hlabel => (exec_readRecord_ok h hact).trans ?_⟩
      rw [recordBytes, labelField_eq hlabel]
      rfl
  · rintro rfl
    refine ⟨fun hno => select_refused _ (s.selectRecord_no_entry c hno), fun e he => ?_⟩
    have hstg := s.selectRecord_staged c he
    refine ⟨fun hno => select_refused _ (by rw [hstg, hno]), fun i hi => ?_⟩
    rw [hi] at hstg
    refine ⟨select_points _ i hstg, fun hlabel => (exec_readRecord_ok h hstg).trans ?_⟩
    rw [recordBytes, labelField_eq hlabel]
    rfl

end

end Sys2Proof.Machine

namespace Sys2Proof.Machine

section
variable {s : State}

/-! ### Restart (R201) -/

/-- The cells a slot gives back when it is released: an unpinned slot its list's, a pinned one none (R11, R17). -/
def State.cellsBack (s : State) (i : SlotIdx) : Nat := if (s.slot i).pins = 0 then (s.slot i).content.points.length else 0

/-- What a release leaves in the slots other than its own. -/
theorem State.cellsBack_release (s : State) {i j : SlotIdx} (h : j ≠ i) : (s.release i).cellsBack j = s.cellsBack j := by
  have : (s.release i).slot j = s.slot j := by
    rw [State.release_eq]
    exact State.slot_setSlot_other _ _ _ _ h
  rw [State.cellsBack, this, State.cellsBack]

/-- The pool after every entry is discarded, no slot being named twice (R11, R17). -/
theorem State.discardAll_freeCells (es : List Entry) (s : State) (hn : (es.filterMap Entry.slot).Nodup) :
    (es.foldl State.discard s).freeCells = s.freeCells + ((es.filterMap Entry.slot).map s.cellsBack).sum := by
  induction es generalizing s with
  | nil => rfl
  | cons e es ih =>
    rw [List.foldl_cons]
    cases he : e.slot with
    | none =>
      rw [List.filterMap_cons_none he] at hn ⊢
      rw [show s.discard e = s by simp [State.discard, he]]
      exact ih s hn
    | some k =>
      rw [List.filterMap_cons_some he] at hn ⊢
      obtain ⟨hk, hn⟩ := List.nodup_cons.1 hn
      have hrest : (es.filterMap Entry.slot).map (s.release k).cellsBack = (es.filterMap Entry.slot).map s.cellsBack :=
        List.map_congr_left fun j hj => s.cellsBack_release fun h => hk (h ▸ hj)
      have hcells : (s.release k).freeCells = s.freeCells + s.cellsBack k := by rw [State.release_eq]; rfl
      rw [show s.discard e = s.release k by simp [State.discard, he], ih _ hn, hrest, hcells, List.map_cons, List.sum_cons,
        Nat.add_assoc]

/-- The blocks as Restart leaves them, where the edit set's discard leaves these slots and this pool (R201). -/
def State.settledWith (s u : State) : State :=
  { s with
    slots := u.slots, freeCells := u.freeCells, edits := [], lease := .stopped
    contexts := tabulate fun k => (s.context k).map fun l => { l with drop := true }
    lanes := tabulate fun n => { requests := [], results := [], inFlight := (s.lane n).inFlight }
    pointer := 0, probe := .none, causes := 0#3, repairQueue := [], scrubPos := 0, scrubCount := 0
    mismatches := 0, control := Control.default, counter := 0#8
    response := { status := .ok, echo := 0#8, counter := 0#8, refused := false, payload := [] } }

/-- What Restart does to every block before the operation in progress (R201). -/
theorem State.restartBlocks_eq (hn : (s.edits.filterMap Entry.slot).Nodup) :
    s.restartBlocks = s.settledWith (s.edits.foldl State.discard s) := by
  obtain ⟨hframe, -⟩ := State.discardAll_eq s.edits s hn
  rw [State.restartBlocks, State.emptyEdits, hframe]
  rfl

/-- An open port takes a Restart (R191, R201). -/
theorem exec_restart (hh : s.held = false) (hr : s.receiver = .idle) : exec .restart s = .next s.restartBlocks.restartStore := by
  show Host.Outcome.next _ = _
  rw [if_pos (by simp [State.portOpen, hh, hr])]
  rfl

/-- A save that a Restart meets ends STOPPED, and the empty queue starts no repair (R155, R201). -/
theorem State.restartStore_saving {v : SaveState} (hc : s.ctl = .saving v) (hz : s.causes = 0#3) (hq : s.repairQueue = []) :
    s.restartStore = { s with
      ctl := .idle, causes := 0b010#3, lastSave := .stopped v.stage.phase v.stage.area v.done
      port := s.portLeft } := by
  simp only [State.restartStore, hc]
  rw [State.stopSave, State.dropTransfer_eq, State.endSave_eq, hz, BitVec.zero_or]
  exact State.withRepair_none (.inl hq)

/-- A repair that a Restart meets is discarded without an outcome (R187). -/
theorem State.restartStore_repairing {r : RepairState} (hc : s.ctl = .repairing r) :
    s.restartStore = { s with ctl := .idle, port := s.portLeft } := by
  simp only [State.restartStore, hc, State.dropTransfer_eq]

/-- A load past its drain begins again from its table clear (R173). -/
theorem State.restartStore_loading {l : LoadState} (hc : s.ctl = .loading l) (hl : l.stage ≠ .drain) :
    s.restartStore = State.cleared { s with port := s.portLeft } := by
  have hagain : s.restartStore = s.dropTransfer.beginHeaders := by simp only [State.restartStore, hc, if_neg hl]
  rw [hagain, State.dropTransfer_eq, State.beginHeaders_eq]

/-- A load that drains with a lookup in flight drains on (R173). -/
theorem State.restartStore_draining {l : LoadState} (hc : s.ctl = .loading l) (hl : l.stage = .drain)
    (hk : ∃ k, s.context k ≠ none) : s.restartStore = s := by
  simp only [State.restartStore, hc, if_pos hl]
  exact State.endDrain_waits (.inr hk)

/-- Settles O54: the blocks first, then each operation of the controller. -/
theorem restartKeepsTheTable : Obligations.RestartKeepsTheTable := by
  intro s hh hr hn
  obtain ⟨-, -, hslots⟩ := State.discardAll_eq s.edits s hn
  refine ⟨s.edits.foldl State.discard s, fun i => by simp [hslots], State.discardAll_freeCells s.edits s hn, ?_⟩
  intro settled
  have hrun : exec .restart s = .next settled.restartStore := by
    rw [exec_restart hh hr, State.restartBlocks_eq hn]
    rfl
  rw [hrun]
  refine ⟨fun hc => ?_, fun v hc => ?_, fun r hc => ?_, fun l hc hl => ?_, fun l k hc hl hk => ?_⟩
  · have hidle : settled.ctl = .idle := hc
    simp only [State.restartStore, hidle]
  · rw [State.restartStore_saving (s := settled) hc rfl rfl]
    rfl
  · rw [State.restartStore_repairing (s := settled) hc]
    rfl
  · rw [State.restartStore_loading (s := settled) hc hl]
    rfl
  · have hin : settled.context k ≠ none := by
      rw [show settled.context k = _ from tabulate_get _ k]
      simpa using hk
    rw [State.restartStore_draining (s := settled) hc hl ⟨k, hin⟩]

end

end Sys2Proof.Machine

namespace Sys2Proof.Machine

/-! ### The corrected value (R35, R36) -/

/-- Saturation moves a value to the nearest bound (R35). -/
theorem saturate_eq (v : Int) : saturate v = max (-8388608) (min 8388607 v) := by
  show (if v > 8388607 then 8388607 else if v < -8388608 then -8388608 else v) = _
  split
  · omega
  · split <;> omega

/-- The corrected value is the curve's value, saturated (R35). -/
theorem correct_toInt (c : Content) (raw : Half) :
    (correct c raw).1.toInt = saturate (curve c.endMode (curvePoints c) (readX c.format raw)).1 := by
  have fits (w : Int) : (BitVec.ofInt 24 (saturate w)).toInt = saturate w := by
    have := saturate_eq w
    exact BitVec.toInt_ofInt_eq_self (by decide) (by omega) (by omega)
  exact fits _

/-- The value and the flags of a raw code whose curve value is known: SATURATED exactly when saturation changes it
(R35). -/
theorem correct_of_curve {c : Content} {raw : Half} {w : Int} {clamped : Bool}
    (h : curve c.endMode (curvePoints c) (readX c.format raw) = (w, clamped)) :
    (correct c raw).1.toInt = max (-8388608) (min 8388607 w) ∧ (correct c raw).2.clamped = clamped ∧
      ((correct c raw).2.saturated = true ↔ w < -8388608 ∨ 8388607 < w) := by
  refine ⟨by rw [correct_toInt, h, saturate_eq], by rw [correct, h], ?_⟩
  rw [correct, h]
  simp only [saturate_eq, decide_eq_true_eq]
  omega

/-- A curve value of 24 bits is the corrected value, and SATURATED is clear (R35). -/
theorem correct_of_curve_toInt {c : Content} {raw : Half} {w : Int} {clamped : Bool}
    (h : curve c.endMode (curvePoints c) (readX c.format raw) = (w, clamped)) (hlow : -8388608 ≤ w)
    (hhigh : w ≤ 8388607) :
    (correct c raw).1.toInt = w ∧ (correct c raw).2.clamped = clamped ∧ (correct c raw).2.saturated = false := by
  obtain ⟨hvalue, hclamped, hsaturated⟩ := correct_of_curve h
  exact ⟨by omega, hclamped, Bool.eq_false_iff.2 fun hs => by have := hsaturated.1 hs; omega⟩

/-- LOW compares with the low limit where there is one (R36). -/
theorem isLow_iff (limits : Option Limits) (v : Int) :
    isLow limits v = true ↔ ∃ l, limits = some l ∧ v < l.low.toInt := by
  cases limits <;> simp [isLow]

/-- HIGH compares with the high limit where there is one (R36). -/
theorem isHigh_iff (limits : Option Limits) (v : Int) :
    isHigh limits v = true ↔ ∃ l, limits = some l ∧ l.high.toInt < v := by
  cases limits <;> simp [isHigh]

/-! ### The segments of a list (R31, R34) -/

/-- The last segment is made of the last two points (R34). -/
theorem lastSegment_append (p q : IntPoint) (rest : List IntPoint) :
    ∃ front, p :: q :: rest = front ++ [(lastSegment p q rest).1, (lastSegment p q rest).2] := by
  induction rest generalizing p q with
  | nil => exact ⟨[], rfl⟩
  | cons r rest ih =>
    obtain ⟨front, hfront⟩ := ih q r
    exact ⟨p :: front, congrArg (p :: ·) hfront⟩

/-- The last segment of a list that ends in these two points (R34). -/
theorem lastSegment_eq {p q u v : IntPoint} {rest front : List IntPoint} (h : p :: q :: rest = front ++ [u, v]) :
    lastSegment p q rest = (u, v) := by
  obtain ⟨front', hfront⟩ := lastSegment_append p q rest
  have hlast := (List.append_inj' (hfront.symm.trans h) rfl).2
  simp only [List.cons.injEq, and_true] at hlast
  exact Prod.ext hlast.1 hlast.2

/-- The second point of the last segment is the last point (R34). -/
theorem getLast?_eq_lastSegment (p q : IntPoint) (rest : List IntPoint) :
    (p :: q :: rest).getLast? = some (lastSegment p q rest).2 := by
  obtain ⟨front, hfront⟩ := lastSegment_append p q rest
  rw [hfront]
  simp

/-- The x is within the segment that begins at point i (R31). -/
def HoldsAt (points : List IntPoint) (x : Int) (i : Nat) : Prop :=
  ∃ u v, points[i]? = some u ∧ points[i + 1]? = some v ∧ u.1 ≤ x ∧ x ≤ v.1

/-- The segment taken is the lowest one that holds the x (R31). -/
theorem segment_eq {x : Int} {p q u v : IntPoint} {rest : List IntPoint} {i : Nat}
    (hu : (p :: q :: rest)[i]? = some u) (hv : (p :: q :: rest)[i + 1]? = some v) (hux : u.1 ≤ x) (hxv : x ≤ v.1)
    (hlowest : ∀ j < i, ¬ HoldsAt (p :: q :: rest) x j) : segment x p q rest = (u, v) := by
  induction rest generalizing p q i with
  | nil =>
    have hi : i = 0 := by
      have := (List.getElem?_eq_some_iff.1 hv).1
      simpa using this
    subst hi
    cases hu
    cases hv
    rfl
  | cons r rest ih =>
    rw [segment]
    cases i with
    | zero =>
      cases hu
      cases hv
      exact if_pos ⟨hux, hxv⟩
    | succ i =>
      rw [if_neg fun h => hlowest 0 (Nat.succ_pos i) ⟨p, q, rfl, rfl, h⟩]
      exact ih hu hv fun j hj h => hlowest (j + 1) (Nat.succ_lt_succ hj) h

/-! ### The curve inside and outside its range (R30 to R34) -/

/-- A product over a divisor, its first factor from 0 to the divisor: the quotient truncated toward zero lies between 0
and the other factor. -/
theorem tdiv_mul_between {a d : Int} (b : Int) (ha : 0 ≤ a) (had : a ≤ d) (hd : 0 < d) :
    min 0 b ≤ Int.tdiv (a * b) d ∧ Int.tdiv (a * b) d ≤ max 0 b := by
  have nonneg (b : Int) (hb : 0 ≤ b) : 0 ≤ Int.tdiv (a * b) d ∧ Int.tdiv (a * b) d ≤ b := by
    have hab : 0 ≤ a * b := Int.mul_nonneg ha hb
    rw [Int.tdiv_eq_ediv_of_nonneg hab]
    refine ⟨Int.ediv_nonneg hab hd.le, Int.ediv_le_of_le_mul hd ?_⟩
    rw [Int.mul_comm b d]
    exact Int.mul_le_mul_of_nonneg_right had hb
  by_cases hb : 0 ≤ b
  · have := nonneg b hb
    omega
  · have h := nonneg (-b) (by omega)
    rw [Int.mul_neg, Int.neg_tdiv] at h
    omega

/-- Inside a segment the value lies between the segment's two y values (R32). -/
theorem insideValue_between {x : Int} {u v : IntPoint} (hux : u.1 ≤ x) (hxv : x ≤ v.1) :
    min u.2 v.2 ≤ insideValue x u v ∧ insideValue x u v ≤ max u.2 v.2 := by
  unfold insideValue interpolate
  split
  · omega
  · have := tdiv_mul_between (a := x - u.1) (d := v.1 - u.1) (v.2 - u.2) (by omega) (by omega) (by omega)
    omega

/-- What an end mode gives past an end of the range: CLAMP the end point, EXTEND the end segment carried on, or the end
point where that segment has zero width (R33, R34). -/
def pastEnd (mode : EndMode) (endPoint u v : IntPoint) (x : Int) : Int × Bool :=
  match mode with
  | .clamp => (endPoint.2, true)
  | .extend => if u.1 = v.1 then (endPoint.2, true) else (interpolate x u v, false)

/-- Below the range the end point is the first point and the end segment the first one (R33, R34). -/
theorem curve_below (mode : EndMode) {p q : IntPoint} (rest : List IntPoint) {x : Int} (h : x < p.1) :
    curve mode (p :: q :: rest) x = pastEnd mode p p q x := by
  simp only [curve, if_pos h]
  cases mode <;> rfl

/-- Above the range the end point is the last point and the end segment the last one (R33, R34). -/
theorem curve_above (mode : EndMode) {p q u v : IntPoint} {rest front : List IntPoint} {x : Int}
    (hlast : p :: q :: rest = front ++ [u, v]) (hp : p.1 ≤ x) (hv : v.1 < x) :
    curve mode (p :: q :: rest) x = pastEnd mode v u v x := by
  simp only [curve, lastSegment_eq hlast, if_neg (Int.not_lt.2 hp), if_pos hv]
  cases mode <;> rfl

/-- Inside the range the value is that of the segment taken, and CLAMPED is clear (R30, R32). -/
theorem curve_inside (mode : EndMode) {points : List IntPoint} {first last u v : IntPoint} {x : Int} {i : Nat}
    (hfirst : points.head? = some first) (hlast : points.getLast? = some last) (hfx : first.1 ≤ x) (hxl : x ≤ last.1)
    (hu : points[i]? = some u) (hv : points[i + 1]? = some v) (hux : u.1 ≤ x) (hxv : x ≤ v.1)
    (hlowest : ∀ j < i, ¬ HoldsAt points x j) : curve mode points x = (insideValue x u v, false) := by
  match points with
  | [] => cases hu
  | [_] => cases hv
  | p :: q :: rest =>
    cases hfirst
    rw [getLast?_eq_lastSegment] at hlast
    cases hlast
    simp only [curve, if_neg (Int.not_lt.2 hfx), if_neg (Int.not_lt.2 hxl), segment_eq hu hv hux hxv hlowest]

/-- A point as the engine reads it under a format (R29). -/
def intPoint (f : Format) (p : Point) : IntPoint := (readX f p.x, p.y.toInt)

/-- The engine reads the list point by point (R29). -/
theorem curvePoints_eq (c : Content) : curvePoints c = c.points.map (intPoint c.format) := rfl

/-- Where the curve runs past an end of its range: the clauses of R33 and R34, saturated as R35 says. -/
theorem correct_pastEnd {c : Content} {raw : Half} {e u v : Point}
    (h : curve c.endMode (curvePoints c) (readX c.format raw) =
      pastEnd c.endMode (intPoint c.format e) (intPoint c.format u) (intPoint c.format v) (readX c.format raw)) :
    let ended : Prop := (correct c raw).1.toInt = e.y.toInt ∧ (correct c raw).2.clamped = true ∧
      (correct c raw).2.saturated = false
    let w := interpolate (readX c.format raw) (intPoint c.format u) (intPoint c.format v)
    (c.endMode = .clamp → ended) ∧ (c.endMode = .extend → readX c.format u.x = readX c.format v.x → ended) ∧
    (c.endMode = .extend → readX c.format u.x ≠ readX c.format v.x →
      (correct c raw).1.toInt = max (-8388608) (min 8388607 w) ∧ (correct c raw).2.clamped = false ∧
        ((correct c raw).2.saturated = true ↔ w < -8388608 ∨ 8388607 < w)) := by
  intro ended w
  have at_end (hend : pastEnd c.endMode (intPoint c.format e) (intPoint c.format u) (intPoint c.format v)
      (readX c.format raw) = (e.y.toInt, true)) : ended :=
    correct_of_curve_toInt (h.trans hend) e.y.le_toInt (Int.le_of_lt_add_one e.y.toInt_lt)
  refine ⟨fun hm => at_end ?_, fun hm hw => at_end ?_, fun hm hw => correct_of_curve (h.trans ?_)⟩
  · rw [hm]; rfl
  · rw [hm]; exact if_pos hw
  · rw [hm]; exact if_neg hw

/-- Settles O28: the lowest segment that holds the raw code is the one taken, and its value needs no saturation. -/
theorem insideTheRangeInterpolates : Obligations.InsideTheRangeInterpolates := by
  intro c raw i p q first last x at' hfirst hlast hfx hxl hp hq hpx hxq hlowest v
  have hlow : ∀ j < i, ¬ HoldsAt (curvePoints c) x j := by
    rintro j hj ⟨u, w, hu, hw, hux, hxw⟩
    rw [curvePoints_eq, List.getElem?_map, Option.map_eq_some_iff] at hu hw
    obtain ⟨u, hu, rfl⟩ := hu
    obtain ⟨w, hw, rfl⟩ := hw
    exact hlowest j u w hj hu hw ⟨hux, hxw⟩
  have hcurve : curve c.endMode (curvePoints c) x = (insideValue x (intPoint c.format p) (intPoint c.format q), false) :=
    curve_inside c.endMode (first := intPoint c.format first) (last := intPoint c.format last)
      (by simp [curvePoints_eq, hfirst]) (by simp [curvePoints_eq, hlast]) hfx hxl
      (by simp [curvePoints_eq, hp]) (by simp [curvePoints_eq, hq]) hpx hxq hlow
  obtain ⟨hmin, hmax⟩ : min p.y.toInt q.y.toInt ≤ _ ∧ _ ≤ max p.y.toInt q.y.toInt :=
    insideValue_between (u := intPoint c.format p) (v := intPoint c.format q) hpx hxq
  have hrange (y : Val24) : -8388608 ≤ y.toInt ∧ y.toInt < 8388608 := ⟨y.le_toInt, y.toInt_lt⟩
  have hp24 := hrange p.y
  have hq24 := hrange q.y
  obtain ⟨hvalue, hclamped, hsaturated⟩ := correct_of_curve_toInt hcurve (by omega) (by omega)
  exact ⟨hvalue, hmin.trans_eq hvalue.symm, hvalue.trans_le hmax, hclamped, hsaturated⟩

/-- Settles O29: past either end the curve is `pastEnd` of that end; the limits compare the saturated value. -/
theorem outsideTheRangeClampsOrExtends : Obligations.OutsideTheRangeClampsOrExtends := by
  refine ⟨fun c raw p q u v rest front hlist hends => ⟨fun hx => ?_, fun hp hv => ?_⟩,
    fun c raw => ⟨?_, ?_, fun _ => rfl⟩⟩
  · refine correct_pastEnd (e := p) ?_
    rw [curvePoints_eq, hlist]
    exact curve_below c.endMode _ hx
  · have hlast : intPoint c.format p :: intPoint c.format q :: rest.map (intPoint c.format) =
        front.map (intPoint c.format) ++ [intPoint c.format u, intPoint c.format v] := by
      simpa using congrArg (List.map (intPoint c.format)) (hlist.symm.trans hends)
    refine correct_pastEnd (e := v) ?_
    rw [curvePoints_eq, hlist]
    exact curve_above c.endMode hlast hp hv
  · rw [correct_toInt]
    exact isLow_iff _ _
  · rw [correct_toInt]
    exact isHigh_iff _ _

end Sys2Proof.Machine

namespace Sys2Proof.Machine

/-! ### The result of a lookup (R37 to R42) -/

/-- A SUSPECT slot gives no value (R40). -/
theorem slotResult_suspect (t : ResultTag) {sl : Slot} (raw : Half) (h : sl.state = .suspect) :
    slotResult t sl raw = t.noValue .suspect Flags.clear := if_pos h

/-- An expired record under BLOCK gives no value (R40). -/
theorem slotResult_blocked (t : ResultTag) {sl : Slot} (raw : Half) (h : sl.state ≠ .suspect) (he : sl.expired = true)
    (hb : sl.content.action = .block) :
    slotResult t sl raw = t.noValue .blocked { Flags.clear with expired := true } :=
  (if_neg h).trans (if_pos ⟨he, hb⟩)

/-- Any other record gives its value, with EXPIRED as its flag stands (R40, R42). -/
theorem slotResult_value (t : ResultTag) {sl : Slot} (raw : Half) (h : sl.state ≠ .suspect)
    (hb : ¬ (sl.expired = true ∧ sl.content.action = .block)) : slotResult t sl raw = t.withValue sl raw :=
  (if_neg h).trans (if_neg hb)

/-- Beside a value EXPIRED is the slot's flag, and the other flags are the correction's (R42). -/
theorem ResultTag.withValue_flags (t : ResultTag) {sl : Slot} (raw : Half) {expired : Bool} (h : sl.expired = expired) :
    (t.withValue sl raw).flags = { (correct sl.content raw).2 with expired } := by
  subst h
  rfl

/-- What identifies a result is the grant's, whatever the slot decides (R38). -/
theorem slotResult_tag (t : ResultTag) (sl : Slot) (raw : Half) :
    (slotResult t sl raw).tag = t.tag ∧ (slotResult t sl raw).channel = t.channel ∧
      (slotResult t sl raw).revision = t.revision := by
  unfold slotResult
  split
  · exact ⟨rfl, rfl, rfl⟩
  · split <;> exact ⟨rfl, rfl, rfl⟩

/-- What the grant of a lookup fixes of its result (R38). -/
def Lookup.resultTag (l : Lookup) : ResultTag := { tag := l.tag, channel := l.channel, revision := l.revision }

/-- The result of a lookup with a slot is decided from that slot as it stands (R40, R101). -/
theorem lookupResult_pinned {l : Lookup} {i : SlotIdx} (h : l.pinned = some i) (slotOf : SlotIdx → Slot) :
    lookupResult l slotOf = slotResult l.resultTag (slotOf i) l.raw := by
  unfold lookupResult
  rw [h]
  rfl

/-- The result of a lookup without a slot was fixed at the grant (R38). -/
theorem lookupResult_unpinned {l : Lookup} (h : l.pinned = none) (slotOf : SlotIdx → Slot) :
    lookupResult l slotOf = l.resultTag.noValue (unboundReason l.binding) Flags.clear := by
  unfold lookupResult
  rw [h]
  rfl

/-- Tag, channel and revision of a result are those of the grant (R38). -/
theorem lookupResult_tag (l : Lookup) (slotOf : SlotIdx → Slot) :
    (lookupResult l slotOf).tag = l.tag ∧ (lookupResult l slotOf).channel = l.channel ∧
      (lookupResult l slotOf).revision = l.revision := by
  cases hp : l.pinned with
  | none =>
    rw [lookupResult_unpinned hp]
    exact ⟨rfl, rfl, rfl⟩
  | some i =>
    rw [lookupResult_pinned hp]
    exact slotResult_tag _ _ _

/-- The reason of a lookup without a slot: LOST for a LOST entry (R38). -/
theorem unboundReason_eq (b : Option Binding) : unboundReason b = if b = some .lost then .lost else .unassigned := by
  split
  case isTrue h => rw [h]; rfl
  case isFalse h =>
    match b with
    | none => rfl
    | some (.bound _) => rfl
    | some .unassigned => rfl
    | some .lost => exact absurd rfl h

/-- Settles O27: the cases of `slotResult` in the order of R40, and the lookup without a slot. -/
theorem resultIsDecidedAtCompletion : Obligations.ResultIsDecidedAtCompletion := by
  intro l slotOf r
  obtain ⟨htag, hchannel, hrevision⟩ := lookupResult_tag l slotOf
  refine ⟨htag, hchannel, hrevision, fun i hp => ?_, fun hp => ?_⟩
  · intro sl noFlags
    rw [show r = slotResult _ sl _ from lookupResult_pinned hp slotOf]
    refine ⟨fun hs => ?_, fun hs => ⟨fun he hb => ?_, fun he hw => ?_, fun he => ?_⟩⟩
    · rw [slotResult_suspect _ _ hs]
      exact ⟨rfl, rfl, rfl, rfl⟩
    · rw [slotResult_blocked _ _ hs he hb]
      exact ⟨rfl, rfl, rfl, rfl⟩
    · rw [slotResult_value _ _ hs (by simp [hw])]
      exact ⟨rfl, rfl, rfl, ResultTag.withValue_flags _ _ he⟩
    · rw [slotResult_value _ _ hs (by simp [he])]
      exact ⟨rfl, rfl, rfl, ResultTag.withValue_flags _ _ he⟩
  · rw [show r = _ from lookupResult_unpinned hp slotOf]
    exact ⟨rfl, rfl, rfl, unboundReason_eq _⟩

end Sys2Proof.Machine

namespace Sys2Proof.Machine

section
variable {s : State}

/-! ### The grant of a lane (R38, R96, R97, R100) -/

/-- The free context found is the lowest one (R95). -/
theorem State.freeContext_lowest {k : CtxIdx} (h : s.freeContext = some k) :
    s.context k = none ∧ ∀ j < k, s.context j ≠ none := by
  simp only [State.freeContext, List.find?_eq_some_iff_getElem] at h
  obtain ⟨hk, i, hi, hik, hbefore⟩ := h
  refine ⟨by simpa using hk, fun j hj hnone => ?_⟩
  rw [List.getElem_finRange] at hik
  have hji : j.val < i := by rw [← hik] at hj; exact hj
  simpa [hnone] using hbefore j hji

/-- The search visits the positions in the order of their distance from the pointer (R97). -/
theorem searchOrder_getElem (pointer : Fin 5) {d : Nat} (h : d < (searchOrder pointer).length) :
    (searchOrder pointer)[d] = pointer + (⟨d, h⟩ : Fin 5) := by
  have h5 : d < 5 := h
  match d, h5 with
  | 0, _ => exact (add_zero pointer).symm
  | 1, _ | 2, _ | 3, _ | 4, _ => rfl

/-- The arbiter selects only what it may grant next (R96, R97). -/
theorem State.grants_of_selected {p : Fin 5} {k : CtxIdx} (h : s.selected = some (p, k)) : s.grants p k := by
  obtain ⟨hhold, -⟩ := State.selected_free h
  have hfound : s.freeContext = some k ∧ (searchOrder s.pointer).find? s.eligible = some p := by
    simp only [State.selected, hhold, Bool.false_eq_true, if_false] at h
    split at h
    case h_1 hk hp => cases h; exact ⟨hk, hp⟩
    case h_2 => cases h
  obtain ⟨hctx, hpos⟩ := hfound
  obtain ⟨hfree, hlowest⟩ := State.freeContext_lowest hctx
  obtain ⟨he, d, hd, hdp, hbefore⟩ := List.find?_eq_some_iff_getElem.1 hpos
  refine ⟨hhold, hfree, hlowest, ⟨d, hd⟩, ?_, (s.eligible_iff p).1 he, fun e hed hmay => ?_⟩
  · rw [← hdp, searchOrder_getElem]
  · have := hbefore e.val hed
    rw [searchOrder_getElem, (s.eligible_iff _).2 hmay] at this
    cases this

/-- A BOUND entry's snapshot names its slot and carries its revision (R38). -/
theorem State.snapshot_bound {c : Channel} {i : SlotIdx} (h : (s.entry c).binding = .bound i) :
    s.snapshot c = ((s.entry c).binding, (s.entry c).revision, some i) := by
  simp only [State.snapshot, h]

/-- Any other entry's snapshot carries revision 0 and no slot (R38). -/
theorem State.snapshot_not_bound {c : Channel} (h : ∀ i, (s.entry c).binding ≠ .bound i) :
    s.snapshot c = ((s.entry c).binding, 0#16, none) := by
  unfold State.snapshot
  split
  case h_1 i hb => exact absurd hb (h i)
  case h_2 hb => rw [hb]
  case h_3 hb => rw [hb]

/-- Where a lane is next, its head request is granted (R97, R100). -/
theorem exec_laneGrant (hh : s.held = false) {n : LaneIdx} {k : CtxIdx} (hg : s.grants n.castSucc k) :
    exec .laneGrant s = .next (s.grantLane n k) := by
  refine congrArg Host.Outcome.next ((State.awake_running hh _).trans ?_)
  simp only [State.laneGrant, State.selected_of_grants hg]
  exact dif_pos n.isLt

/-- Where no lane is next, nothing is granted (R96, R97). -/
theorem exec_laneGrant_none (h : ∀ (n : LaneIdx) k, ¬ s.grants n.castSucc k) : exec .laneGrant s = .next s := by
  have hnone : s.laneGrant = s := by
    unfold State.laneGrant
    split
    case h_1 p k hsel => exact dif_neg fun hp => h ⟨p.val, hp⟩ k (State.grants_of_selected hsel)
    case h_2 => rfl
  refine congrArg Host.Outcome.next ?_
  cases hh : s.held with
  | true => exact State.awake_held hh _
  | false => exact (State.awake_running hh _).trans hnone

/-- Settles O23: what the grant reads from the map decides the pin and the revision. -/
theorem laneGrantStartsALookup : Obligations.LaneGrantStartsALookup := by
  intro s
  refine ⟨fun n k q rest hh hg hq => ?_, exec_laneGrant_none⟩
  intro entry granted
  refine ⟨fun i hb => (exec_laneGrant hh hg).trans ?_, fun hb => (exec_laneGrant hh hg).trans ?_⟩
  · simp only [State.grantLane, hq, State.snapshot_bound hb]
    rfl
  · simp only [State.grantLane, hq, State.snapshot_not_bound hb]
    rfl

/-! ### The completion of a probe (R46, R108, R205) -/

/-- The flags of a result are separate bits of their byte (R205). -/
theorem flagsByte_eq_add (f : Flags) :
    flagsByte f = (if f.clamped then 0x01#8 else 0#8) + (if f.saturated then 0x02#8 else 0#8) +
      (if f.low then 0x04#8 else 0#8) + (if f.high then 0x08#8 else 0#8) + if f.expired then 0x10#8 else 0#8 := by
  obtain ⟨clamped, saturated, low, high, expired⟩ := f
  revert clamped saturated low high expired
  decide

/-- PRESENT is a bit of its own beside the no-value reason (R205). -/
theorem qualityByte_eq_add (r : Result) :
    qualityByte r = (if r.present then 0x80#8 else 0#8) + noValueCode r.reason := by
  unfold qualityByte
  cases r.present <;> cases r.reason <;> rfl

/-- The end of a lookup keeps the operation in progress, and every other lookup in flight. -/
theorem State.endLookup_frame (s : State) (k : CtxIdx) (l : Lookup) :
    (s.endLookup k l).ctl = s.ctl ∧ ∀ j, j ≠ k → (s.endLookup k l).context j = s.context j := by
  unfold State.endLookup
  cases l.pinned with
  | none => exact ⟨rfl, fun j hj => State.context_setContext_other _ _ _ _ hj⟩
  | some i =>
    simp only [State.unpin_eq]
    exact ⟨rfl, fun j hj => State.context_setContext_other _ _ _ _ hj⟩

/-- A completion while no load drains, or while one drains with another lookup in flight, ends its lookup and no more
(R101, R103, R162; log entry 13). -/
theorem State.finish_goes_on {k : CtxIdx} (l : Lookup)
    (h : ∀ v, s.ctl = .loading v → v.stage = .drain → ∃ j, j ≠ k ∧ s.context j ≠ none) :
    s.finish k l = s.endLookup k l := by
  obtain ⟨hctl, hother⟩ := s.endLookup_frame k l
  refine (s.finish_eq k l).trans (State.endDrain_goes_on fun v hv hdrain => ?_)
  obtain ⟨j, hj, hbusy⟩ := h v (hctl.symm.trans hv) hdrain
  exact ⟨j, (hother j hj).symm ▸ hbusy⟩

/-- The end of a lookup without a slot frees its context (R101). -/
theorem State.endLookup_unpinned {k : CtxIdx} {l : Lookup} (h : l.pinned = none) :
    s.endLookup k l = s.setContext k none := by
  unfold State.endLookup
  rw [h]

/-- The end of a lookup with a slot unpins it and frees its context (R14, R15, R101). -/
theorem State.endLookup_pinned {k : CtxIdx} {l : Lookup} {i : SlotIdx} (h : l.pinned = some i) :
    s.endLookup k l =
      { (s.setSlot i (s.slot i).unpinned).setContext k none with
        freeCells := s.freeCells +
          if (s.slot i).state = .draining ∧ (s.slot i).pins ≤ 1 then (s.slot i).content.points.length else 0 } := by
  unfold State.endLookup
  rw [h]
  exact congrArg (State.setContext · k none) (s.unpin_eq i)

/-- What a probe's completion tells the host before its lookup ends: nothing once a Restart has dropped it (R108,
R110). -/
def State.probeTold (s : State) (l : Lookup) : State :=
  if l.drop then s
  else { s with
    probe := .none, response := { s.response with status := .ok, payload := resultBytes (lookupResult l s.slot) } }

/-- The telling changes the pending probe and the buffer only. -/
theorem State.probeTold_frame (s : State) (l : Lookup) :
    ∃ q r, s.probeTold l = { s with probe := q, response := r } := by
  unfold State.probeTold
  split
  · exact ⟨s.probe, s.response, rfl⟩
  · exact ⟨_, _, rfl⟩

/-- The completion of a probe that ends no drain tells the host and ends the lookup (R108, R162). -/
theorem exec_probeCompletion (hh : s.held = false) {k : CtxIdx} {l : Lookup} (hk : s.context k = some l)
    (hr : l.requester = .host)
    (hdrain : ∀ v, s.ctl = .loading v → v.stage = .drain → ∃ j, j ≠ k ∧ s.context j ≠ none) :
    exec (.probeCompletion k) s = .next ((s.probeTold l).endLookup k l) := by
  refine congrArg Host.Outcome.next ((State.awake_running hh _).trans ?_)
  simp only [State.probeCompletion, hk, hr]
  refine State.finish_goes_on (s := s.probeTold l) l ?_
  obtain ⟨q, r, htold⟩ := s.probeTold_frame l
  rw [htold]
  exact hdrain

/-- Settles O26: the bytes of the result, then the end of the lookup with and without a slot. -/
theorem probeCompletionAnswersTheHost : Obligations.ProbeCompletionAnswersTheHost := by
  intro k l s hh hdrain hk hr r flags quality told
  have htold : told = s.probeTold l := by
    have hflags : flags = flagsByte r.flags := (flagsByte_eq_add _).symm
    have hquality : quality = qualityByte r := by
      rw [qualityByte_eq_add]
      rfl
    simp only [told, hflags, hquality]
    rfl
  obtain ⟨q, r', hframe⟩ := s.probeTold_frame l
  have hrun := exec_probeCompletion hh hk hr hdrain
  refine ⟨fun hp => hrun.trans ?_, fun i hp => hrun.trans ?_⟩
  · rw [State.endLookup_unpinned hp, htold]
  · rw [State.endLookup_pinned hp, htold, hframe]
    rfl

end

end Sys2Proof.Machine

namespace Sys2Proof.Machine

/-! ### What the laws of the timers, the queue, the port and the store speak of -/

/-- The part of a state that these laws speak of. -/
structure Ledger where
  map         : Vector MapEntry 256
  slots       : Vector Slot 128
  edits       : List Entry
  lease       : LeaseTimer
  msCount     : Nat
  scrubCount  : Nat
  control     : Control
  ctl         : Controller
  port        : Option Transfer
  repairQueue : List Channel
  mismatches  : Nat
  store       : Mem

/-- The ledger of a state. -/
def State.ledger (s : State) : Ledger :=
  { map := s.map, slots := s.slots, edits := s.edits, lease := s.lease, msCount := s.msCount, scrubCount := s.scrubCount,
    control := s.control, ctl := s.ctl, port := s.port, repairQueue := s.repairQueue, mismatches := s.mismatches,
    store := s.store }

/-- Two states of one ledger read alike in each of its fields. -/
theorem State.ledger_eq_iff (s t : State) :
    t.ledger = s.ledger ↔
      t.map = s.map ∧ t.slots = s.slots ∧ t.edits = s.edits ∧ t.lease = s.lease ∧ t.msCount = s.msCount ∧
        t.scrubCount = s.scrubCount ∧ t.control = s.control ∧ t.ctl = s.ctl ∧ t.port = s.port ∧
        t.repairQueue = s.repairQueue ∧ t.mismatches = s.mismatches ∧ t.store = s.store := by
  simp [State.ledger]

/-- The channel is under repair (R181). -/
def Controller.repairs (c : Controller) (d : Channel) : Prop := ∃ r, c = .repairing r ∧ r.target = d

/-- Each queued channel is BOUND to a SUSPECT slot, but the one that was under repair as the step began (R179; log entry
20). -/
def State.queuedBut (s : State) (c₀ : Controller) : Prop := ∀ c ∈ s.repairQueue, ¬ c₀.repairs c → s.boundSuspect c

/-- What a page write in progress may leave in the store: bytes at its addresses, whole, in part or not at all (R142,
R148, R153). -/
def State.mayHold (s : State) (m : Mem) : Prop :=
  m = s.store ∨ ∃ p ∈ s.port, ∃ data, p.kind = .write data ∧ ∃ bytes : List Byte, bytes.length ≤ data.length ∧
    (m = Mem.writeBytes s.store p.address bytes ∨ m = Mem.cutWrite s.store p.address bytes)

/-- A transfer at the port is new, or its silence timer stands where it stood (R143). -/
def portTimely (before after : Option Transfer) : Prop :=
  ∀ t ∈ after, t.ticks = 0 ∨ ∃ p ∈ before, t.ticks = p.ticks

/-- A part of a step keeps the laws of the timers, of the queue, of a save and of the store. `s₀` is the state that the
step began in. -/
structure Orderly (s₀ s t : State) : Prop where
  lease   : s.leaseLaw → t.leaseLaw
  timer   : s.timerLaw → t.timerLaw
  control : s.controlLaw → t.controlLaw
  queue   : s.queueLaw → t.queueLaw
  queued  : s₀.tableLaw → s.queuedBut s₀.ctl → t.queuedBut s₀.ctl
  save    : s₀.tableLaw → s₀.readLaw → s₀.saveLaw → s.saveLaw → t.saveLaw
  store   : s₀.mayHold s.store → s₀.mayHold t.store

section
variable {s₀ s t u : State}

/-- Nothing done. -/
theorem Orderly.refl : Orderly s₀ s s := ⟨id, id, id, id, fun _ => id, fun _ _ _ => id, id⟩

/-- One part after another. -/
theorem Orderly.trans (h : Orderly s₀ s t) (h' : Orderly s₀ t u) : Orderly s₀ s u :=
  ⟨h'.lease ∘ h.lease, h'.timer ∘ h.timer, h'.control ∘ h.control, h'.queue ∘ h.queue,
    fun h₀ => h'.queued h₀ ∘ h.queued h₀, fun h₀ h₁ h₂ => h'.save h₀ h₁ h₂ ∘ h.save h₀ h₁ h₂, h'.store ∘ h.store⟩

/-- Only a save in progress is under the law of a save. -/
theorem State.saveLaw_of_not_saving (h : ∀ v, s.ctl ≠ .saving v) : s.saveLaw := by
  unfold State.saveLaw
  split
  case h_1 v hc => exact absurd hc (h v)
  all_goals trivial

/-- The BOUND channels above one are read in the map alone. -/
theorem State.channelsLeft_congr (h : t.map = s.map) (last : Option Channel) :
    t.channelsLeft last = s.channelsLeft last := by
  simp only [State.channelsLeft, State.boundSlot_congr h]

/-- What the law of a save says of its transfers, given the stage (R148, R149, R151). -/
def SaveState.portLaw (v : SaveState) (port : Option Transfer) : Prop :=
  let writing (address : Nat) (fits : List Byte → Prop) : Prop :=
    ∀ t ∈ port, t.finishing = false ∧ t.address = address ∧ ∃ data, t.kind = .write data ∧ fits data
  match v.stage with
  | .readA => v.bodyLaw 0
  | .readB _ => v.bodyLaw 0 ∧ ∀ t ∈ port, t.finishing = false ∧ t.kind = .read 64
  | .invalidate g => v.bodyLaw 0 ∧ writing g.area.base fun data => data.length = 4
  | .body g => writing (g.area.base + 64 + v.done) fun data => v.bodyLaw data.length
  | .header g => writing g.area.base fun data => data.length = 64
  | .marker g => writing g.area.base fun data => data.length = 4

/-- The law of a save in progress: the records still to be read, and the transfers. -/
theorem State.saveLaw_iff {v : SaveState} (hc : s.ctl = .saving v) :
    s.saveLaw ↔ v.written.length + (s.channelsLeft v.last).length ≤ 128 ∧ v.portLaw s.port := by
  obtain ⟨st, ep, last, rest, dn, wr⟩ := v
  unfold State.saveLaw
  rw [hc]
  cases st <;> exact Iff.rfl

/-- The law of a save looks at a transfer's place and kind, and at no transfer where the port is free. -/
theorem State.saveLaw.port (h : s.saveLaw) (hm : t.map = s.map) (hc : t.ctl = s.ctl)
    (hp : ∀ x ∈ t.port, ∃ y ∈ s.port, x.finishing = y.finishing ∧ x.address = y.address ∧ x.kind = y.kind) :
    t.saveLaw := by
  by_cases hv : ∃ v, s.ctl = .saving v
  · obtain ⟨v, hv⟩ := hv
    obtain ⟨hcount, hport⟩ := (State.saveLaw_iff hv).1 h
    refine (State.saveLaw_iff (hc.trans hv)).2 ⟨by rwa [State.channelsLeft_congr hm], ?_⟩
    have writing {a : Nat} {fits : List Byte → Prop}
        (h : ∀ y ∈ s.port, y.finishing = false ∧ y.address = a ∧ ∃ data, y.kind = .write data ∧ fits data) :
        ∀ x ∈ t.port, x.finishing = false ∧ x.address = a ∧ ∃ data, x.kind = .write data ∧ fits data := by
      intro x hx
      obtain ⟨y, hy, h1, h2, h3⟩ := hp x hx
      rw [h1, h2, h3]
      exact h y hy
    unfold SaveState.portLaw at hport ⊢
    split at hport
    case h_1 => exact hport
    case h_2 =>
      refine ⟨hport.1, fun x hx => ?_⟩
      obtain ⟨y, hy, h1, -, h3⟩ := hp x hx
      rw [h1, h3]
      exact hport.2 y hy
    case h_3 => exact ⟨hport.1, writing hport.2⟩
    all_goals exact writing hport
  · exact State.saveLaw_of_not_saving fun v h => hv ⟨v, hc ▸ h⟩

/-! ### The kinds of parts that a step is made of -/

/-- What these laws do not speak of has changed. -/
theorem Orderly.quiet (e : t.ledger = s.ledger) : Orderly s₀ s t := by
  obtain ⟨h1, h2, h3, h4, h5, h6, h7, h8, h9, h10, h11, h12⟩ := (State.ledger_eq_iff s t).1 e
  refine ⟨fun h => ?_, fun h => ?_, fun h => ?_, fun h => ?_, fun _ h => ?_, fun _ _ _ h => ?_, fun h => by rwa [h12]⟩
  · rwa [State.leaseLaw, h3, h4]
  · rwa [State.timerLaw, h5, h6, h7, h9]
  · rwa [State.controlLaw, h7]
  · rwa [State.queueLaw, h10, h11]
  · unfold State.queuedBut State.boundSuspect State.entry State.slot
    rw [h1, h2, h10]
    exact h
  · exact h.port h1 h8 fun x hx => ⟨x, h9 ▸ hx, rfl, rfl, rfl⟩

/-- A part of a step before another. -/
theorem Orderly.after (h' : Orderly s₀ t u) (h : Orderly s₀ s t) : Orderly s₀ s u := h.trans h'

/-- What these laws do not speak of changes after a part of a step. -/
theorem Orderly.to_ledger (h : Orderly s₀ s t) (e : u.ledger = t.ledger) : Orderly s₀ s u := h.trans (.quiet e)

/-- What these laws do not speak of changes before a part of a step. -/
theorem Orderly.of_ledger (h : Orderly s₀ t u) (e : t.ledger = s.ledger) : Orderly s₀ s u := (Orderly.quiet e).trans h

/-- Another operation, or another stage of it, with what the port then holds. -/
theorem Orderly.work {c : Controller} {p : Option Transfer} (hp : portTimely s.port p)
    (hs : s₀.tableLaw → s₀.readLaw → s₀.saveLaw → s.saveLaw → State.saveLaw { s with ctl := c, port := p })
    (e : t.ledger = State.ledger { s with ctl := c, port := p }) : Orderly s₀ s t := by
  refine (Orderly.quiet e).after ⟨id, fun ⟨h1, h2, h3⟩ => ⟨h1, fun x hx => ?_, h3⟩, id, id, fun _ => id, hs, id⟩
  obtain h | ⟨y, hy, h⟩ := hp x hx
  · rw [h]; decide
  · rw [h]; exact h2 y hy

/-- An operation other than a save goes on, begins or ends. -/
theorem Orderly.away {c : Controller} {p : Option Transfer} (hp : portTimely s.port p) (hc : ∀ v, c ≠ .saving v)
    (e : t.ledger = State.ledger { s with ctl := c, port := p }) : Orderly s₀ s t :=
  .work hp (fun _ _ _ _ => State.saveLaw_of_not_saving hc) e

/-- Map entries and slots change, the map not during a save. -/
theorem Orderly.table {m : Vector MapEntry 256} {sl : Vector Slot 128} (hm : m = s.map ∨ ∀ v, s.ctl ≠ .saving v)
    (hq : s₀.tableLaw → ∀ c ∈ s.repairQueue, ¬ s₀.ctl.repairs c → s.boundSuspect c →
      State.boundSuspect { s with map := m, slots := sl } c)
    (e : t.ledger = State.ledger { s with map := m, slots := sl }) : Orderly s₀ s t := by
  refine (Orderly.quiet e).after ⟨id, id, id, id, fun h₀ h c hc hr => hq h₀ c hc hr (h c hc hr), fun _ _ _ h => ?_, id⟩
  obtain rfl | hm := hm
  · exact h
  · exact State.saveLaw_of_not_saving hm

/-- Slots change, and a SUSPECT one stays SUSPECT. -/
theorem Orderly.slots {sl : Vector Slot 128}
    (h : s₀.tableLaw → ∀ i, (s.slot i).state = .suspect → (sl.get i).state = .suspect)
    (e : t.ledger = State.ledger { s with slots := sl }) : Orderly s₀ s t :=
  Orderly.table (m := s.map) (sl := sl) (.inl rfl) (fun h₀ _ _ _ ⟨i, hb, hi⟩ => ⟨i, hb, h h₀ i hi⟩) e

/-- The repair queue and the mismatch counter change, and what is queued anew is BOUND to a SUSPECT slot (R176, R177). -/
theorem Orderly.requeue {q : List Channel} {n : Nat}
    (hl : s.queueLaw → State.queueLaw { s with repairQueue := q, mismatches := n })
    (hq : ∀ c ∈ q, c ∈ s.repairQueue ∨ s.boundSuspect c)
    (e : t.ledger = State.ledger { s with repairQueue := q, mismatches := n }) : Orderly s₀ s t :=
  (Orderly.quiet e).after
    ⟨id, id, id, hl, fun _ h c hc hr => (hq c hc).elim (fun hm => h c hm hr) id, fun _ _ _ => id, id⟩

/-- Channels leave the repair queue. -/
theorem Orderly.dequeue {q : List Channel} (hq : q.Sublist s.repairQueue)
    (e : t.ledger = State.ledger { s with repairQueue := q }) : Orderly s₀ s t :=
  .requeue (fun ⟨h1, h2, h3⟩ => ⟨hq.length_le.trans h1, hq.nodup h2, h3⟩) (fun _ hc => .inl (hq.subset hc)) e

/-- The entries and the lease timer change together. -/
theorem Orderly.edits {es : List Entry} {l : LeaseTimer}
    (h : s.leaseLaw → State.leaseLaw { s with edits := es, lease := l })
    (e : t.ledger = State.ledger { s with edits := es, lease := l }) : Orderly s₀ s t :=
  (Orderly.quiet e).after ⟨h, id, id, id, fun _ => id, fun _ _ _ => id, id⟩

/-- The counts of the ticks and the settings change together. -/
theorem Orderly.counts {n k : Nat} {c : Control}
    (ht : s.timerLaw → State.timerLaw { s with msCount := n, scrubCount := k, control := c })
    (hc : s.controlLaw → State.controlLaw { s with control := c })
    (e : t.ledger = State.ledger { s with msCount := n, scrubCount := k, control := c }) : Orderly s₀ s t :=
  (Orderly.quiet e).after ⟨id, ht, hc, id, fun _ => id, fun _ _ _ => id, id⟩

/-- The page write in progress as the step began leaves its bytes in the store. -/
theorem Orderly.wrote {m : Mem} (hm : s₀.mayHold m) (e : t.ledger = State.ledger { s with store := m }) :
    Orderly s₀ s t :=
  (Orderly.quiet e).after ⟨id, id, id, id, fun _ => id, fun _ _ _ => id, fun _ => hm⟩

/-- A reset, whatever it leaves in the store (R24). -/
theorem Orderly.reset {m : Mem} (hm : s₀.mayHold m) (e : t.ledger = State.ledger { State.reset with store := m }) :
    Orderly s₀ s t := by
  obtain ⟨-, -, -, -, hlease, htimer, hcontrol, hqueue, -, -, hsave, -⟩ := resetMeetsTheLaws
  exact (Orderly.quiet e).after
    ⟨fun _ => hlease, fun _ => htimer, fun _ => hcontrol, fun _ => hqueue, fun _ _ _ hc => (nomatch hc),
      fun _ _ _ _ => hsave, fun _ => hm⟩

end

end Sys2Proof.Machine

namespace Sys2Proof.Machine

section
variable {s₀ s t u : State}

/-! ### The port and the ends of the operations -/

/-- A port that is as it was. -/
theorem portTimely_refl (p : Option Transfer) : portTimely p p := fun _ ht => .inr ⟨_, ht, rfl⟩

/-- A port that is free. -/
theorem portTimely_none (p : Option Transfer) : portTimely p none := fun _ ht => nomatch ht

/-- A transfer just issued (R142). -/
theorem portTimely_issue (p : Option Transfer) (address : Nat) (kind : TransferKind) :
    portTimely p (some { address, kind, finishing := false, ticks := 0 }) := by
  rintro _ ⟨⟩
  exact .inl rfl

/-- The first read of an operation, or the finishing write it waits for (R144). -/
theorem State.portTimely_first (s : State) : portTimely s.port s.portWithFirstRead := by
  unfold State.portWithFirstRead
  cases s.port with
  | none => exact portTimely_issue none 0 (.read 64)
  | some p => exact portTimely_refl (some p)

/-- What an operation leaves at the port as it ends early (R144). -/
theorem State.portTimely_left (s : State) : portTimely s.port s.portLeft := by
  unfold State.portLeft
  cases s.port with
  | none => exact portTimely_none none
  | some p =>
    simp only
    split
    case isTrue => exact portTimely_refl (some p)
    case isFalse =>
      cases p.kind with
      | read => exact portTimely_none _
      | write =>
        rintro _ ⟨⟩
        exact .inr ⟨p, rfl, rfl⟩

/-- The port becomes free. -/
theorem Orderly.portFree (e : t.ledger = State.ledger { s with port := none }) : Orderly s₀ s t :=
  .work (c := s.ctl) (portTimely_none _) (fun _ _ _ h => h.port rfl rfl fun _ hx => nomatch hx) e

/-- The first transfer that waited for the port meets a save that has chosen no target yet (R144, R148). -/
theorem State.issueDeferred_orderly (s : State) : Orderly s₀ s s.issueDeferred := by
  unfold State.issueDeferred
  split
  case isFalse => exact .refl
  case isTrue h =>
    rw [State.issueFirst_eq]
    refine .work (c := s.ctl) s.portTimely_first (fun _ _ _ hl => ?_) rfl
    obtain ⟨v, hc, hv⟩ | ⟨l, hc, -⟩ | ⟨r, hc, -⟩ := (Controller.atFirstTransfer_iff _).1 h
    · obtain ⟨hcount, hport⟩ := (State.saveLaw_iff hc).1 hl
      refine (State.saveLaw_iff (s := { s with port := s.portWithFirstRead }) hc).2 ⟨hcount, ?_⟩
      unfold SaveState.portLaw at hport ⊢
      rw [hv] at hport ⊢
      exact hport
    · exact State.saveLaw_of_not_saving (by simp [hc])
    · exact State.saveLaw_of_not_saving (by simp [hc])

/-- A repair's start takes its channel off the queue (R181). -/
theorem State.startRepair_orderly (s : State) : Orderly s₀ s s.startRepair := by
  rw [State.startRepair_eq]
  obtain h | ⟨c, i, rest, -, hq, -, -, h⟩ := s.withRepair_cases
  · have h := h s.scrubCount
    rw [h]
    exact .refl
  · have h := h s.scrubCount
    rw [h]
    refine (Orderly.dequeue (t := { s with repairQueue := rest }) ?_ rfl).trans (.away s.portTimely_first (by simp) rfl)
    rw [hq]
    exact List.sublist_cons_self c rest

/-- An operation ends and the next repair may start (R146). -/
theorem Orderly.ended {p : Option Transfer} (hp : portTimely s.port p)
    (e : t.ledger = State.ledger { s with ctl := .idle, port := p }) : Orderly s₀ s t.startRepair :=
  (Orderly.away hp (by simp) e).trans (State.startRepair_orderly t)

/-- The end of a save (R152). -/
theorem State.endSave_orderly (s : State) (o : SaveOutcome) : Orderly s₀ s (s.endSave o) :=
  .ended (portTimely_refl s.port) rfl

/-- The end of a load (R171). -/
theorem State.endLoad_orderly (s : State) (o : LoadOutcome) (epoch : Word) : Orderly s₀ s (s.endLoad o epoch) :=
  .ended (portTimely_refl s.port) rfl

/-- The end of a repair (R186). -/
theorem State.endRepair_orderly (s : State) (o : RepairOutcome) : Orderly s₀ s (s.endRepair o) :=
  .ended (portTimely_refl s.port) rfl

/-- A stopped save leaves its page write to finish (R144, R154, R155). -/
theorem State.stopSave_orderly (s : State) (v : SaveState) : Orderly s₀ s (s.stopSave v) := by
  unfold State.stopSave
  rw [State.dropTransfer_eq]
  exact .ended s.portTimely_left rfl

/-- The table clear empties the queue with the table (R163). -/
theorem Orderly.cleared {p : Option Transfer} {l : LoadState} (hp : portTimely s.port p) (hc : s.ctl = .loading l)
    (e : t.ledger = State.ledger { s with
      map := Vector.replicate 256 { binding := .unassigned, revision := 0#16 }, slots := Vector.replicate 128 Slot.blank
      repairQueue := [], ctl := .loading { stage := .readA, installed := 0, lost := 0 }, port := p }) :
    Orderly s₀ s t := by
  have hq : Orderly s₀ s { s with repairQueue := [] } := .dequeue (List.nil_sublist _) rfl
  exact (hq.trans (.table (.inr (by simp [hc])) (fun _ _ hc => nomatch hc) rfl)).trans (.away hp (by simp) e)

/-- A drain that ends clears the table (R162, R163). -/
theorem State.endDrain_orderly (s : State) : Orderly s₀ s s.endDrain := by
  unfold State.endDrain
  split
  case h_1 l hc =>
    split
    case isTrue =>
      rw [State.beginHeaders_eq]
      exact .cleared s.portTimely_first hc rfl
    case isFalse => exact .refl
  case h_2 => exact .refl

/-- A load begins in place of whatever the controller did (R160, R161). -/
theorem Orderly.startLoad (e : t.ledger = s.ledger) : Orderly s₀ s t.startLoad := by
  let drain : State := { t with ctl := .loading { stage := .drain, installed := 0, lost := 0 }, hold := true }
  have hdrain : Orderly s₀ t drain := .away (portTimely_refl t.port) (by simp) rfl
  exact ((Orderly.quiet e).trans hdrain).trans (State.endDrain_orderly drain)

/-! ### Slots and the repair queue -/

/-- A slot replaced by another keeps what is queued, if it is not SUSPECT or stays it. -/
theorem Orderly.setSlot {i : SlotIdx} {v : Slot} (h : s₀.tableLaw → (s.slot i).state = .suspect → v.state = .suspect)
    (e : t.ledger = (s.setSlot i v).ledger) : Orderly s₀ s t := by
  refine .slots (sl := (s.setSlot i v).slots) (fun h₀ j hj => ?_) e
  show ((s.setSlot i v).slot j).state = .suspect
  rw [State.slot_setSlot]
  split
  case isTrue hji => subst hji; exact h h₀ hj
  case isFalse => exact hj

/-- A queue with one channel more keeps its law (R176, R179). -/
theorem queueRepair_law {q : List Channel} (c : Channel) (hlen : q.length ≤ 8) (hn : q.Nodup) :
    let q' := if c ∈ q ∨ 8 ≤ q.length then q else q ++ [c]
    q'.length ≤ 8 ∧ q'.Nodup := by
  intro q'
  by_cases h : c ∈ q ∨ 8 ≤ q.length
  · rw [show q' = q from if_pos h]
    exact ⟨hlen, hn⟩
  · rw [show q' = q ++ [c] from if_neg h]
    obtain ⟨hc, hl⟩ := not_or.1 h
    refine ⟨by rw [List.length_append, List.length_singleton]; omega, ?_⟩
    exact List.nodup_append.2 ⟨hn, List.nodup_singleton c, by
      rintro a ha b hb rfl; exact hc (List.mem_singleton.1 hb ▸ ha)⟩

/-- A mismatch marks its slot SUSPECT before it queues the channel bound to it (R176). -/
theorem State.mismatch_orderly (s : State) (i : SlotIdx) : Orderly s₀ s (s.mismatch i) := by
  let x : State := s.setSlot i { s.slot i with state := .suspect }
  have hx : Orderly s₀ s x := .setSlot (fun _ _ => rfl) rfl
  have hcount : min 255 (s.mismatches + 1) ≤ 255 := Nat.min_le_left _ _
  refine hx.trans ?_
  unfold State.mismatch
  simp only
  split
  case h_2 =>
    exact .requeue (n := min 255 (s.mismatches + 1)) (fun ⟨h1, h2, _⟩ => ⟨h1, h2, hcount⟩) (fun _ hc => .inl hc) rfl
  case h_1 c hc =>
    have hb : x.boundSlot c = some i := by
      have := List.find?_some hc
      exact eq_of_beq this
    have hsus : x.boundSuspect c :=
      ⟨i, (x.boundSlot_iff c i).1 hb, congrArg Slot.state (s.slot_setSlot_same i _)⟩
    rw [State.queueRepair_eq]
    refine .requeue (fun ⟨h1, h2, _⟩ => ?_) (fun d hd => ?_) rfl
    · obtain ⟨hl, hn⟩ := queueRepair_law c h1 h2
      exact ⟨hl, hn, hcount⟩
    · change d ∈ (if _ then s.repairQueue else s.repairQueue ++ [c]) at hd
      split at hd
      case isTrue => exact .inl hd
      case isFalse =>
        obtain hd | hd := List.mem_append.1 hd
        · exact .inl hd
        · exact .inr (List.mem_singleton.1 hd ▸ hsus)

/-- Discarding entries changes the slots and the pool alone (R11). -/
theorem State.discardAll_frame (es : List Entry) (s : State) :
    es.foldl State.discard s =
      { s with slots := (es.foldl State.discard s).slots, freeCells := (es.foldl State.discard s).freeCells } := by
  induction es generalizing s with
  | nil => rfl
  | cons e es ih =>
    rw [List.foldl_cons, ih, s.discard_eq e]

/-- A slot that no entry names is left by their discard (R11). -/
theorem State.slot_discardAll (es : List Entry) (s : State) {i : SlotIdx} (h : ∀ e ∈ es, e.slot ≠ some i) :
    (es.foldl State.discard s).slot i = s.slot i := by
  induction es generalizing s with
  | nil => rfl
  | cons e es ih =>
    rw [List.foldl_cons, ih _ fun d hd => h d (List.mem_cons_of_mem _ hd), State.slot_discard,
      if_neg (h e List.mem_cons_self)]

/-- A slot that an entry names is STAGED (R9). -/
theorem State.tableLaw.staged (h : s.tableLaw) {e : Entry} {i : SlotIdx} (he : e ∈ s.edits) (hi : e.slot = some i) :
    (s.slot i).state = .staged := by
  obtain ⟨hs, -⟩ := (State.tableLaw_iff s).1 h
  exact ((hs i).of_named (State.editCount_pos he hi)).2.2

/-- Entries that are discarded release STAGED slots, and with them the timer is set anew (R11, R61, R62, R65). -/
theorem Orderly.discards {es rest : List Entry} {l : LeaseTimer} (hl : s₀.tableLaw → s.tableLaw)
    (hes : ∀ e ∈ es, e ∈ s.edits) (h : s.leaseLaw → State.leaseLaw { s with edits := rest, lease := l })
    (e : t.ledger = State.ledger { es.foldl State.discard s with edits := rest, lease := l }) : Orderly s₀ s t := by
  have hslots : Orderly s₀ s { s with slots := (es.foldl State.discard s).slots } := by
    refine .slots (fun h₀ i hi => ?_) rfl
    show ((es.foldl State.discard s).slot i).state = .suspect
    rw [State.slot_discardAll es s fun e he hei => ?_]
    · exact hi
    · have := (hl h₀).staged (hes e he) hei
      rw [hi] at this
      cases this
  exact hslots.trans (.edits h (e.trans (by rw [State.discardAll_frame]; rfl)))

/-- The emptied set has a stopped timer (R62, R63). -/
theorem State.leaseLaw_empty : State.leaseLaw { s with edits := [], lease := .stopped } :=
  ⟨⟨fun _ => rfl, fun _ => rfl⟩, trivial⟩

/-- A timer that restarts counts from 0, below its lease (R63). -/
theorem State.leaseLaw_fresh {es : List Entry} (h : es ≠ []) :
    State.leaseLaw { s with edits := es, lease := s.freshLease } := by
  show (s.freshLease = .stopped ↔ es = []) ∧ _
  unfold State.freshLease
  split
  case isTrue => exact ⟨by simp [h], trivial⟩
  case isFalse hz => exact ⟨by simp [h], Nat.pos_of_ne_zero fun h0 => hz (BitVec.eq_of_toNat_eq h0)⟩

/-- The timer is restarted with an entry in the set (R55, R56, R61, R74). -/
theorem Orderly.restarts {es : List Entry} (h : es ≠ [])
    (e : t.ledger = State.ledger { s with edits := es, lease := s.freshLease }) : Orderly s₀ s t :=
  .edits (fun _ => State.leaseLaw_fresh h) e

/-- The emptied edit set (R62, R65). -/
theorem State.emptyEdits_orderly (hl : s₀.tableLaw → s.tableLaw) : Orderly s₀ s s.emptyEdits :=
  .discards hl (fun _ => id) (fun _ => State.leaseLaw_empty) rfl

end

end Sys2Proof.Machine

namespace Sys2Proof.Machine

section
variable {s₀ s t u : State}

/-! ### The edit commands -/

/-- A frame at the port (R191, R194, R202). -/
theorem State.takeFrame_orderly {k : CommandCode} {run : State → Answer} (h : Orderly s₀ s.count (run s.count).state) :
    Orderly s₀ s (s.takeFrame k run) := by
  unfold State.takeFrame
  split
  case isTrue => exact .refl
  case isFalse =>
    split
    case isTrue => exact .quiet rfl
    case isFalse =>
      have hrun : Orderly s₀ s (run s.count).state := h.of_ledger rfl
      exact hrun.to_ledger rfl

/-- A command that is refused while a load is in progress (R50). -/
theorem unlessLoading_orderly {run : State → Answer} (h : Orderly s₀ s (run s).state) :
    Orderly s₀ s (unlessLoading run s).state := by
  unfold unlessLoading
  split
  case isTrue => exact .refl
  case isFalse => exact h

/-- A FREE slot is not SUSPECT. -/
theorem State.not_suspect_of_free {i : SlotIdx} (h : s.lowestFree = some i) : (s.slot i).state ≠ .suspect := by
  rw [State.free_of_lowestFree h]
  simp

/-- An opened entry restarts the timer (R55, R63). -/
theorem State.openEntry_orderly (c : Channel) (kind : EditKind) {taken : Option (SlotIdx × Content)}
    (ht : ∀ p ∈ taken, (s.slot p.1).state ≠ .suspect) : Orderly s₀ s (s.openEntry c kind taken).state := by
  cases taken with
  | none => exact .restarts (es := s.edits ++ [{ channel := c, kind, slot := none }]) (by simp) rfl
  | some p =>
    have hslot : Orderly s₀ s (s.setSlot p.1 { state := .staged, pins := 0, expired := false, content := p.2 }) :=
      .setSlot (fun _ h => absurd h (ht p rfl)) rfl
    exact hslot.trans (.restarts (es := s.edits ++ [{ channel := c, kind, slot := some p.1 }]) (by simp) rfl)

/-- Open Edit opens an entry in a FREE slot, finds a mismatch, or refuses (R51 to R55). -/
theorem openEdit_orderly (c : Channel) (kind : Byte) : Orderly s₀ s (openEdit c kind s).state := by
  refine unlessLoading_orderly ?_
  split
  case h_1 => exact .refl
  case h_2 kind _ =>
    split
    case isTrue => exact .refl
    case isFalse =>
      split
      case isTrue => exact .refl
      case isFalse =>
        split
        case isTrue => exact .refl
        case isFalse =>
          split
          case isTrue => exact State.openEntry_orderly c kind (by simp)
          case isFalse =>
            unfold State.openStaged
            split
            case h_1 => exact .refl
            case h_2 i hi =>
              have opened (content : Content) : Orderly s₀ s (s.openEntry c kind (some (i, content))).state :=
                State.openEntry_orderly c kind (by rintro _ ⟨⟩; exact State.not_suspect_of_free hi)
              split
              case h_1 src _ _ _ _ =>
                simp only
                split
                case isTrue => exact .refl
                case isFalse =>
                  split
                  case isTrue => exact (State.mismatch_orderly s src).trans (State.startRepair_orderly _)
                  case isFalse => exact opened _
              case h_2 => exact opened _

/-- A staged content is replaced and the timer restarted (R56). -/
theorem State.stage_orderly (he : s.edits ≠ []) (i : SlotIdx) (content : Content) (cells : Nat) :
    Orderly s₀ s (State.stage { s with freeCells := cells } i content).state := by
  have hslot : Orderly s₀ s (s.setSlot i { s.slot i with content }) :=
    .setSlot (i := i) (v := { s.slot i with content }) (fun _ => id) rfl
  exact hslot.trans (.restarts he rfl)

/-- A content command names an entry (R56). -/
theorem onStaged_orderly {c : Channel} {run : State → SlotIdx → Answer}
    (h : s.edits ≠ [] → ∀ i, Orderly s₀ s (run s i).state) : Orderly s₀ s (onStaged c run s).state := by
  refine unlessLoading_orderly ?_
  split
  case h_1 => exact .refl
  case h_2 e he =>
    split
    case h_1 => exact .refl
    case h_2 i _ => exact h (List.ne_nil_of_mem (List.mem_of_find?_eq_some he)) i

/-- Set Fields (R57). -/
theorem setFields_orderly (c : Channel) (f : FieldBytes) : Orderly s₀ s (setFields c f s).state := by
  refine onStaged_orderly fun he i => ?_
  split
  case h_1 => exact .refl
  case h_2 => exact State.stage_orderly he i _ s.freeCells

/-- Set Label (R58). -/
theorem setLabel_orderly (c : Channel) (label : List Byte) : Orderly s₀ s (setLabel c label s).state := by
  refine onStaged_orderly fun he i => ?_
  split
  case isTrue => exact .refl
  case isFalse => exact State.stage_orderly he i _ s.freeCells

/-- Put Points (R59). -/
theorem putPoints_orderly (c : Channel) (start : Byte) (points : List Point) :
    Orderly s₀ s (putPoints c start points s).state := by
  refine onStaged_orderly fun he i => ?_
  simp only
  split
  case isTrue => exact .refl
  case isFalse =>
    split
    case isTrue => exact .refl
    case isFalse => exact State.stage_orderly he i _ _

/-- Trim Points (R60). -/
theorem trimPoints_orderly (c : Channel) (count : Byte) : Orderly s₀ s (trimPoints c count s).state := by
  refine onStaged_orderly fun he i => ?_
  simp only
  split
  case isTrue => exact .refl
  case isFalse => exact State.stage_orderly he i _ _

/-- Drop Edit stops the timer with the last entry and restarts it otherwise (R61). -/
theorem dropEdit_orderly (hl : s₀.tableLaw → s.tableLaw) (c : Channel) : Orderly s₀ s (dropEdit c s).state := by
  refine unlessLoading_orderly ?_
  split
  case h_1 => exact .refl
  case h_2 e he =>
    have hmem : ∀ d ∈ [e], d ∈ s.edits := by simpa using List.mem_of_find?_eq_some he
    simp only
    split
    case isTrue hrest =>
      have hrest := List.isEmpty_iff.1 hrest
      rw [hrest]
      exact .discards hl hmem (fun _ => State.leaseLaw_empty) rfl
    case isFalse hrest =>
      have hrest := mt List.isEmpty_iff.2 hrest
      refine .discards hl hmem (fun _ => State.leaseLaw_fresh hrest) ?_
      show State.ledger (State.restartLease { s.discard e with edits := _ }) =
        State.ledger { s.discard e with edits := _, lease := _ }
      rw [s.discard_eq e]
      rfl

/-- Abandon empties the set (R62). -/
theorem abandon_orderly (hl : s₀.tableLaw → s.tableLaw) : Orderly s₀ s (abandon s).state := by
  refine unlessLoading_orderly ?_
  split
  case isTrue => exact .refl
  case isFalse => exact State.emptyEdits_orderly hl

/-- The channels queued after an entry has been applied (R80). -/
theorem State.applyEntry_repairQueue (s : State) (e : Entry) :
    (s.applyEntry e).repairQueue = s.repairQueue.filter fun c => c != e.channel := by
  unfold State.applyEntry
  rw [State.supersede_eq]
  cases e.slot <;> rfl

/-- The channels queued after an accepted commit: none that it has edited (R80). -/
theorem State.applyAll_repairQueue (es : List Entry) (s : State) :
    (es.foldl State.applyEntry s).repairQueue.Sublist s.repairQueue ∧
      ∀ c ∈ (es.foldl State.applyEntry s).repairQueue, ∀ e ∈ es, e.channel ≠ c := by
  induction es generalizing s with
  | nil => exact ⟨List.Sublist.refl _, by simp⟩
  | cons e es ih =>
    obtain ⟨hsub, hne⟩ := ih (s.applyEntry e)
    rw [State.applyEntry_repairQueue] at hsub
    refine ⟨hsub.trans List.filter_sublist, fun c hc d hd => ?_⟩
    obtain rfl | hd := List.mem_cons.1 hd
    · have := (List.mem_filter.1 (hsub.subset hc)).2
      simpa using Ne.symm (bne_iff_ne.1 this)
    · exact hne c hc d hd

/-- A SUSPECT slot that no entry installs or supersedes stays bound through an accepted commit (R75 to R80). -/
theorem State.applyAll_boundSuspect (es : List Entry) (s : State) {c : Channel} {i : SlotIdx}
    (hb : s.boundSlot c = some i) (hi : (s.slot i).state = .suspect)
    (hne : ∀ e ∈ es, e.channel ≠ c ∧ e.slot ≠ some i ∧ s.boundSlot e.channel ≠ some i) :
    (es.foldl State.applyEntry s).boundSuspect c := by
  induction es generalizing s with
  | nil => exact ⟨i, (s.boundSlot_iff c i).1 hb, hi⟩
  | cons e es ih =>
    obtain ⟨⟨h1, h2, h3⟩, hne⟩ := List.forall_mem_cons.1 hne
    refine ih (s.applyEntry e) ?_ ?_ fun d hd => ?_
    · rw [State.boundSlot_applyEntry, if_neg h1.symm, hb]
    · rw [State.slot_applyEntry, if_neg h2, State.slot_supersede, if_neg h3, hi]
    · obtain ⟨h4, h5, h6⟩ := hne d hd
      refine ⟨h4, h5, ?_⟩
      rw [State.boundSlot_applyEntry]
      split
      case isTrue => exact h2
      case isFalse => exact h6

/-- Commit takes its channels off the queue with the records it supersedes (R69, R75). -/
theorem commit_orderly (hl : s₀.tableLaw → s.tableLaw) : Orderly s₀ s (commit s).state := by
  refine unlessLoading_orderly ?_
  split
  case isTrue => exact .refl
  case isFalse he =>
    have he : s.edits ≠ [] := mt List.isEmpty_iff.2 he
    split
    case isTrue => exact .refl
    case isFalse hsave =>
      have hsave : ∀ v, s.ctl ≠ .saving v := fun v hc => hsave (by simp [State.isSaving, hc])
      split
      case h_1 => exact .restarts he rfl
      case h_2 =>
        let after := s.edits.foldl State.applyEntry s
        obtain ⟨hsub, hedited⟩ := State.applyAll_repairQueue s.edits s
        have hqueue : Orderly s₀ s { s with repairQueue := after.repairQueue } := .dequeue hsub rfl
        refine hqueue.trans (.trans (.table (m := after.map) (sl := after.slots) (.inr hsave) ?_ rfl)
          (.edits (fun _ => State.leaseLaw_empty) ?_))
        · rintro h₀ c hc - ⟨i, hb, hi⟩
          have hlaw := hl h₀
          obtain ⟨j, hj, hsus⟩ := State.applyAll_boundSuspect s.edits s ((s.boundSlot_iff c i).2 hb) hi fun e hem => by
            refine ⟨hedited c hc e hem, fun hei => ?_, fun hbe => ?_⟩
            · have := hlaw.staged hem hei
              rw [show (s.slot i).state = .suspect from hi] at this
              cases this
            · exact hedited c hc e hem (State.bound_unique hlaw.1 ((s.boundSlot_iff _ i).1 hbe) hb)
          exact ⟨j, hj, hsus⟩
        · show State.ledger { after with epoch := _, edits := _, lease := _ } = _
          rw [show after = _ from State.applyAll_eq s.edits s]
          rfl

/-! ### The other commands -/

/-- The sweep sets expired flags alone (R116). -/
theorem State.sweep_orderly (s : State) : Orderly s₀ s s.sweep := by
  refine .slots (fun _ i hi => ?_) rfl
  show (s.sweep.slot i).state = .suspect
  rw [State.sweep_slot]
  split
  case isTrue => exact hi
  case isFalse => exact hi

/-- Set Time returns the millisecond count to 0 and sweeps (R114). -/
theorem setTime_orderly (seconds : Word) : Orderly s₀ s (setTime seconds s).state := by
  have hcount : Orderly s₀ s { s with partTime := seconds, msCount := 0 } :=
    .counts (n := 0) (k := s.scrubCount) (c := s.control) (fun ⟨_, h2, h3⟩ => ⟨Nat.zero_lt_succ 999, h2, h3⟩) id rfl
  exact hcount.trans (State.sweep_orderly _)

/-- A Set Control that is taken leaves every threshold in 1 to 8 (R195). -/
theorem controlOk_threshold {selection : Half} {v : ControlBytes} (h : controlOk selection v = true) (n : Fin 4)
    (hs : selects selection (7 + n.val) = true) : 1 ≤ (v.threshold.get n).toNat ∧ (v.threshold.get n).toNat ≤ 8 := by
  simp only [controlOk, Bool.and_eq_true, List.all_eq_true] at h
  obtain ⟨⟨⟨-, h⟩, -⟩, -⟩ := h
  simpa [hs, thresholdOk] using h n (List.mem_finRange n)

/-- Set Control restarts the step timer where it writes the step (R195, R196). -/
theorem setControl_orderly (selection : Half) (v : ControlBytes) : Orderly s₀ s (setControl selection v s).state := by
  unfold setControl
  split
  case isTrue => exact .refl
  case isFalse hok =>
    have hok : controlOk selection v = true := by simpa using hok
    refine Orderly.trans (.counts (n := s.msCount) (k := if selects selection 1 then 0 else s.scrubCount)
      (c := writeControl selection v s.control) (fun ⟨h1, h2, h3⟩ => ⟨h1, h2, ?_⟩) (fun h n => ?_) rfl)
      (State.startRepair_orderly _)
    · show (if _ then 0 else s.scrubCount) = 0 ∨
        (if _ then 0 else s.scrubCount) < (if _ then v.step else s.control.step).toNat
      cases selects selection 1 with
      | true => exact .inl rfl
      | false => exact h3
    · rw [show (writeControl selection v s.control).threshold.get n = _ from tabulate_get _ n]
      split
      case isTrue hs => exact controlOk_threshold hok n hs
      case isFalse => exact h n

/-- The BOUND channels have a slot each, and there are 128 slots (R1). -/
theorem State.channelsLeft_length (h : s.bindingLaw) (last : Option Channel) : (s.channelsLeft last).length ≤ 128 := by
  have hnodup : ((channelsAbove last).filterMap s.boundSlot).Nodup := by
    refine List.Nodup.filterMap (fun c d i hc hd => ?_) ?_
    · exact State.bound_unique h ((s.boundSlot_iff c i).1 hc) ((s.boundSlot_iff d i).1 hd)
    · unfold channelsAbove
      split
      · exact List.nodup_finRange 256
      · exact (List.nodup_finRange 256).filter _
  have hlen := hnodup.length_le_card
  rw [Fintype.card_fin, List.length_filterMap_eq_countP, List.countP_eq_length_filter] at hlen
  exact hlen

/-- An accepted Save begins with nothing written (R147). -/
theorem saveCommand_orderly (hl : s₀.tableLaw → s.tableLaw) : Orderly s₀ s (saveCommand s).state := by
  unfold saveCommand
  split
  case isTrue => exact .refl
  case isFalse =>
    split
    case isTrue => exact .refl
    case isFalse =>
      let v : SaveState := { stage := .readA, epoch := s.epoch, last := none, rest := [], done := 0, written := [] }
      show Orderly s₀ s s.startSave
      unfold State.startSave
      rw [State.issueFirst_eq]
      refine .work s.portTimely_first (fun h₀ _ _ _ => ?_) rfl
      refine (State.saveLaw_iff (v := v) rfl).2 ⟨?_, Nat.zero_le _⟩
      exact (Nat.zero_add _).le.trans (State.channelsLeft_length (hl h₀).1 none)

/-- Stop Save ends the save (R154). -/
theorem stopSaveCommand_orderly : Orderly s₀ s (stopSaveCommand s).state := by
  unfold stopSaveCommand
  split
  case h_1 v _ => exact State.stopSave_orderly s v
  case h_2 => exact .refl

/-- Reload begins a load (R161). -/
theorem reload_orderly : Orderly s₀ s (reload s).state := by
  unfold reload
  split
  case isTrue => exact .refl
  case isFalse =>
    split
    case isTrue => exact .refl
    case isFalse => exact .startLoad rfl

/-- A command that only reads. -/
theorem orderly_of_reads {a : Answer} (h : a.state.ledger = s.ledger) : Orderly s₀ s a.state := .quiet h

/-- What Restart does to the operation in progress (R155, R173, R187). -/
theorem State.restartStore_orderly (s : State) : Orderly s₀ s s.restartStore := by
  unfold State.restartStore
  split
  case h_1 => exact .refl
  case h_2 v _ => exact State.stopSave_orderly s v
  case h_3 =>
    rw [State.dropTransfer_eq]
    exact .away s.portTimely_left (by simp) rfl
  case h_4 l hc =>
    split
    case isTrue => exact State.endDrain_orderly s
    case isFalse =>
      have hdrop : Orderly s₀ s { s with port := s.portLeft } := .away (c := s.ctl) s.portTimely_left (by simp [hc]) rfl
      rw [State.dropTransfer_eq, State.beginHeaders_eq]
      exact hdrop.trans (.cleared (State.portTimely_first _) hc rfl)

/-- Restart empties the edit set and the queue, resets the counts and the settings, and ends the operation (R201). -/
theorem State.restart_orderly (hl : s₀.tableLaw → s.tableLaw) : Orderly s₀ s s.restart := by
  let x : State := { s.emptyEdits with repairQueue := [], mismatches := 0 }
  have hempty : Orderly s₀ s.emptyEdits x :=
    .requeue (fun _ => ⟨Nat.zero_le _, List.nodup_nil, Nat.zero_le _⟩) (fun _ hc => nomatch hc) rfl
  have hcounts : Orderly s₀ x s.restartBlocks :=
    .counts (n := s.emptyEdits.msCount) (k := 0) (c := Control.default) (fun ⟨h1, h2, _⟩ => ⟨h1, h2, .inl rfl⟩)
      (fun _ => State.controlLaw_reset) rfl
  exact ((State.emptyEdits_orderly hl).trans hempty).trans (hcounts.trans (State.restartStore_orderly _))

/-! ### Grants and completions -/

/-- A grant pins a slot (R14). -/
theorem State.begin_orderly (s : State) (k : CtxIdx) (l : Lookup) : Orderly s₀ s (s.begin k l) := by
  refine .slots (sl := (s.begin k l).slots) (fun _ i hi => ?_) (by rw [State.begin_eq]; rfl)
  show ((s.begin k l).slot i).state = .suspect
  rw [State.slot_begin]
  split
  case isTrue => exact hi
  case isFalse => exact hi

/-- The end of a lookup frees a slot that is DRAINING at most (R14, R15). -/
theorem State.endLookup_orderly (s : State) (k : CtxIdx) (l : Lookup) : Orderly s₀ s (s.endLookup k l) := by
  refine .slots (sl := (s.endLookup k l).slots) (fun _ i hi => ?_) (by rw [State.endLookup_eq]; rfl)
  show ((s.endLookup k l).slot i).state = .suspect
  rw [State.slot_endLookup]
  split
  case isTrue =>
    unfold Slot.unpinned
    split
    case isTrue hd => rw [hi] at hd; cases hd.1
    case isFalse => exact hi
  case isFalse => exact hi

/-- The end of a lookup, with the drain that it may end (R101, R103). -/
theorem State.finish_orderly (s : State) (k : CtxIdx) (l : Lookup) : Orderly s₀ s (s.finish k l) := by
  rw [State.finish_eq]
  exact (State.endLookup_orderly s k l).trans (State.endDrain_orderly _)

/-- A lane's grant (R100). -/
theorem State.laneGrant_orderly (s : State) : Orderly s₀ s s.laneGrant := by
  unfold State.laneGrant
  split
  case h_2 => exact .refl
  case h_1 p k _ =>
    split
    case isFalse => exact .refl
    case isTrue hp =>
      unfold State.grantLane
      split
      case h_1 => exact .refl
      case h_2 q rest _ =>
        obtain ⟨b, r, i⟩ := s.snapshot q.channel
        let x : State := s.setLane ⟨p.val, hp⟩
          { s.lane ⟨p.val, hp⟩ with requests := rest, inFlight := (s.lane ⟨p.val, hp⟩).inFlight + 1 }
        have begins (l : Lookup) : Orderly s₀ s (x.begin k l) := (State.begin_orderly x k l).of_ledger rfl
        exact (begins _).to_ledger rfl

/-- A probe's grant, or its withdrawal (R107). -/
theorem State.probeGrant_orderly (s : State) : Orderly s₀ s s.probeGrant := by
  have begins (k : CtxIdx) (p : ProbeRequest) (b : Option Binding) (r : Half) (i : Option SlotIdx) :
      Orderly s₀ s (s.beginProbe k p b r i) := (State.begin_orderly s k _).to_ledger rfl
  unfold State.probeGrant
  split
  case h_2 => exact .refl
  case h_1 =>
    split
    case isTrue => exact .refl
    case isFalse =>
      unfold State.grantProbe
      split
      case h_2 => exact .refl
      case h_1 =>
        split
        case h_1 => exact begins _ _ _ _ _
        case h_2 =>
          split
          case h_1 => exact begins _ _ _ _ _
          case h_2 => exact .quiet rfl

/-- A lane's completion (R101). -/
theorem State.laneCompletion_orderly (s : State) (k : CtxIdx) : Orderly s₀ s (s.laneCompletion k) := by
  unfold State.laneCompletion
  split
  case h_2 => exact .refl
  case h_1 l _ =>
    split
    case h_2 => exact .refl
    case h_1 n _ =>
      unfold State.completeLane
      simp only
      split
      case isTrue => exact (State.finish_orderly _ k l).of_ledger rfl
      case isFalse => exact (State.finish_orderly _ k l).of_ledger rfl

/-- A probe's completion (R108). -/
theorem State.probeCompletion_orderly (s : State) (k : CtxIdx) : Orderly s₀ s (s.probeCompletion k) := by
  unfold State.probeCompletion
  split
  case h_2 => exact .refl
  case h_1 l _ =>
    split
    case h_2 => exact .refl
    case h_1 =>
      unfold State.completeProbe
      simp only
      split
      case isTrue => exact State.finish_orderly s k l
      case isFalse => exact (State.finish_orderly _ k l).of_ledger rfl

end

end Sys2Proof.Machine

namespace Sys2Proof.Machine

section
variable {s₀ s t u : State}

/-! ### A save -/

/-- A record image of stated values has at most 193 bytes (R139). -/
theorem recordImage_length {c : Content} (h : c.stated = true) : (recordImage c).length ≤ 193 := by
  obtain ⟨hpoints, hlabel, -, -⟩ := (Content.stated_iff c).1 h
  have htail : (c.points.flatMap pointBytes).length = 5 * c.points.length := by
    have hpoint : ∀ p, (pointBytes p).length = 5 := fun _ => rfl
    simp [List.length_flatMap, hpoint, mul_comm]
  have hhead : (imageHead c).length = 16 := rfl
  simp only [recordImage, imageTail, List.length_append, htail, hhead]
  have : (be16 (contentCrc c)).length = 2 := rfl
  omega

/-- A header is one page (R137, R151). -/
theorem headerImage_length (generation epoch : Word) (bodyLength : Nat) (written : List Channel) :
    (headerImage generation epoch bodyLength written).length = 64 := by
  simp [headerImage, headerFields, presenceBytes, be16, be32]

/-- The channels above one are those after it in ascending order. -/
theorem channelsAbove_of_suffix {c : Channel} {rest : List Channel} (h : c :: rest <:+ List.finRange 256) :
    channelsAbove (some c) = rest := by
  obtain ⟨front, h⟩ := h
  have hsorted := List.pairwise_lt_finRange 256
  rw [← h, List.pairwise_append, List.pairwise_cons] at hsorted
  obtain ⟨-, ⟨hrest, -⟩, hfront⟩ := hsorted
  unfold channelsAbove
  simp only
  rw [← h, List.filter_append, List.filter_cons_of_neg (by simp), List.filter_eq_nil_iff.2, List.nil_append,
    List.filter_eq_self.2]
  · simpa using hrest
  · intro d hd
    have := hfront d hd c List.mem_cons_self
    simpa using this.le

/-- The channels above one are the last of all. -/
theorem channelsAbove_suffix (last : Option Channel) : channelsAbove last <:+ List.finRange 256 := by
  cases last with
  | none => exact List.suffix_rfl
  | some c =>
    obtain ⟨front, rest, h⟩ := List.append_of_mem (List.mem_finRange c)
    have hs : c :: rest <:+ List.finRange 256 := ⟨front, h.symm⟩
    rw [channelsAbove_of_suffix hs]
    exact (List.suffix_cons c rest).trans hs

/-- A page that is filled takes each record it reads from those still to be read, at 193 bytes at most each (R139,
R149). -/
theorem State.fillPage_page (hst : ∀ i, (s.slot i).content.stated = true) {p' : Page} (cs : List Channel) (p : Page)
    (hcs : cs <:+ List.finRange 256) (hleft : s.channelsLeft p.last = cs.filter fun c => (s.boundSlot c).isSome)
    (h : s.fillPage cs p = .page p') :
    p'.written.length + (s.channelsLeft p'.last).length = p.written.length + (s.channelsLeft p.last).length ∧
      p'.bytes.length + p'.rest.length + 193 * p.written.length ≤
        p.bytes.length + p.rest.length + 193 * p'.written.length := by
  induction cs generalizing p with
  | nil => cases h; exact ⟨rfl, le_rfl⟩
  | cons c cs ih =>
    have hcs' : cs <:+ List.finRange 256 := (List.suffix_cons c cs).trans hcs
    unfold State.fillPage at h
    split at h
    case isTrue => cases h; exact ⟨rfl, le_rfl⟩
    case isFalse hfull =>
      split at h
      case h_1 hb =>
        rw [List.filter_cons_of_neg (by simp [hb])] at hleft
        exact ih p hcs' hleft h
      case h_2 i hb =>
        rw [List.filter_cons_of_pos (by simp [hb])] at hleft
        simp only at h
        split at h
        case isTrue => cases h
        case isFalse =>
          split at h
          case isTrue => cases h
          case isFalse =>
            have hafter : s.channelsLeft (some c) = cs.filter fun c => (s.boundSlot c).isSome := by
              rw [State.channelsLeft, channelsAbove_of_suffix hcs]
            obtain ⟨h1, h2⟩ := ih _ hcs' hafter h
            have hlen := recordImage_length (hst i)
            simp only [List.length_append, List.length_singleton, List.length_take, List.length_drop] at h1 h2
            rw [hafter] at h1
            rw [hleft, List.length_cons]
            exact ⟨by omega, by omega⟩

/-- A save goes on, with what the law says of its new stage (R148, R149, R151). -/
theorem Orderly.saving {v : SaveState} {address : Nat} {kind : TransferKind}
    (h : s₀.tableLaw → s₀.readLaw → s₀.saveLaw → s.saveLaw → v.written.length + (s.channelsLeft v.last).length ≤ 128 ∧
      v.portLaw (some { address, kind, finishing := false, ticks := 0 }))
    (e : t.ledger = State.ledger { s with
      ctl := .saving v, port := some { address, kind, finishing := false, ticks := 0 } }) : Orderly s₀ s t :=
  .work (portTimely_issue _ _ _) (fun h₀ h₁ h₂ hs => (State.saveLaw_iff rfl).2 (h h₀ h₁ h₂ hs)) e

/-- An assembly event issues a page within its law, begins the header, or ends the save (R149, R150). -/
theorem State.assemble_orderly (hs : s.slots = s₀.slots) (g : Target) {v : SaveState}
    (hv : s₀.saveLaw → v.written.length + (s.channelsLeft v.last).length ≤ 128 ∧ v.bodyLaw 0) :
    Orderly s₀ s (s.assemble g v) := by
  unfold State.assemble
  split
  case h_1 c found _ =>
    cases found with
    | none => exact State.endSave_orderly s _
    | some i => exact (State.mismatch_orderly s i).trans (State.endSave_orderly _ _)
  case h_2 p hp =>
    split
    case isTrue =>
      refine Orderly.saving (v := { v with stage := .header g }) (fun _ _ h₂ _ => ⟨(hv h₂).1, ?_⟩) rfl
      rintro _ ⟨⟩
      exact ⟨rfl, rfl, _, rfl, headerImage_length _ _ _ _⟩
    case isFalse =>
      have hpage (hr : s₀.readLaw) := State.fillPage_page (s := s)
        (fun i => by rw [State.slot, hs]; exact hr.1 i) _ _ (channelsAbove_suffix v.last) rfl hp
      refine Orderly.saving (v := { v with stage := .body g, rest := p.rest, last := p.last, written := p.written })
        (fun _ hr h₂ _ => ?_) rfl
      obtain ⟨hcount, hbody⟩ := hv h₂
      obtain ⟨hleft, hbytes⟩ := hpage hr
      refine ⟨hleft.trans_le hcount, ?_⟩
      rintro _ ⟨⟩
      refine ⟨rfl, rfl, _, rfl, ?_⟩
      simp only [SaveState.bodyLaw, List.length_take, List.length_drop, Config.pageBytes] at hbody hbytes ⊢
      omega

/-- A header read of a save (R148). -/
theorem State.saveHeaderRead_orderly (s : State) : Orderly s₀ s s.saveHeaderRead := by
  unfold State.saveHeaderRead
  split
  case h_2 => exact .refl
  case h_1 v bytes hc _ =>
    obtain ⟨st, ep, last, rest, dn, wr⟩ := v
    simp only
    split
    case h_3 => exact .refl
    case h_1 =>
      refine Orderly.saving (fun _ _ _ h => ?_) rfl
      obtain ⟨hcount, hbody⟩ := (State.saveLaw_iff hc).1 h
      exact ⟨hcount, hbody, by rintro _ ⟨⟩; exact ⟨rfl, rfl⟩⟩
    case h_2 =>
      refine Orderly.saving (fun _ _ _ h => ?_) rfl
      obtain ⟨hcount, hbody, -⟩ := (State.saveLaw_iff hc).1 h
      exact ⟨hcount, hbody, by rintro _ ⟨⟩; exact ⟨rfl, rfl, _, rfl, rfl⟩⟩

/-- A page write that completes is the operation's own (R142). -/
theorem State.writeDone_cases (h : s.writeDone = some t) :
    ∃ data store, s.writes data store ∧ t = { s with store := store, port := none } := by
  unfold State.writeDone at h
  split at h
  case h_2 => cases h
  case h_1 hp =>
    cases h
    exact ⟨_, _, ⟨_, hp, rfl, rfl, rfl⟩, rfl⟩

/-- What a page write in progress leaves when it completes (R142). -/
theorem State.mayHold_written {p : Transfer} {data : List Byte} (hp : p ∈ s.port) (hk : p.kind = .write data) :
    s.mayHold (Mem.writeBytes s.store p.address data) := .inr ⟨p, hp, data, hk, data, le_rfl, .inl rfl⟩

/-- The completion of a page write (R142). -/
theorem State.writes_orderly {data : List Byte} {store : Mem} (h : s.writes data store) :
    Orderly s s { s with store := store, port := none } := by
  obtain ⟨p, hp, -, hk, rfl⟩ := h
  have hwrote : Orderly s s { s with store := Mem.writeBytes s.store p.address data } :=
    .wrote (State.mayHold_written hp hk) rfl
  exact hwrote.trans (.portFree rfl)

/-- The invalidating write completes (R148). -/
theorem State.invalidateDone_orderly (s : State) : Orderly s s s.invalidateDone := by
  unfold State.invalidateDone
  split
  case h_2 => exact .refl
  case h_1 v s1 hc hw =>
    obtain ⟨data, store, hdone, rfl⟩ := State.writeDone_cases hw
    obtain ⟨st, ep, last, rest, dn, wr⟩ := v
    simp only
    split
    case h_2 => exact .refl
    case h_1 g =>
      refine (State.writes_orderly hdone).trans
        (State.assemble_orderly (s₀ := s) (s := { s with store := store, port := none }) rfl g fun h => ?_)
      obtain ⟨hcount, hbody, -⟩ := (State.saveLaw_iff hc).1 h
      exact ⟨hcount, hbody⟩

/-- A body page completes: its bytes are counted among those done (R149). -/
theorem State.bodyDone_orderly (s : State) : Orderly s s s.bodyDone := by
  unfold State.bodyDone
  split
  case h_2 => exact .refl
  case h_1 v s1 hc hw =>
    obtain ⟨data, store, hdone, rfl⟩ := State.writeDone_cases hw
    obtain ⟨st, ep, last, rest, dn, wr⟩ := v
    simp only
    split
    case h_2 => exact .refl
    case h_1 g =>
      refine (State.writes_orderly hdone).trans
        (State.assemble_orderly (s₀ := s) (s := { s with store := store, port := none }) rfl g fun h => ?_)
      obtain ⟨hcount, hport⟩ := (State.saveLaw_iff hc).1 h
      rw [State.writeLength_of hdone]
      obtain ⟨p, hp, -, hk, -⟩ := hdone
      obtain ⟨-, -, data', hk', hbody⟩ := hport p hp
      obtain rfl : data = data' := by simpa using hk.symm.trans hk'
      exact ⟨hcount, hbody⟩

/-- The first header write completes (R151). -/
theorem State.headerDone_orderly (s : State) : Orderly s s s.headerDone := by
  unfold State.headerDone
  split
  case h_2 => exact .refl
  case h_1 v s1 hc hw =>
    obtain ⟨data, store, hdone, rfl⟩ := State.writeDone_cases hw
    obtain ⟨st, ep, last, rest, dn, wr⟩ := v
    simp only
    split
    case h_2 => exact .refl
    case h_1 g =>
      refine (State.writes_orderly hdone).trans (Orderly.saving (fun _ _ h _ => ?_) rfl)
      obtain ⟨hcount, -⟩ := (State.saveLaw_iff hc).1 h
      exact ⟨hcount, by rintro _ ⟨⟩; exact ⟨rfl, rfl, _, rfl, rfl⟩⟩

/-- The marker write completes (R151, R152). -/
theorem State.markerDone_orderly (s : State) : Orderly s s s.markerDone := by
  unfold State.markerDone
  split
  case h_2 => exact .refl
  case h_1 v s1 hc hw =>
    obtain ⟨data, store, hdone, rfl⟩ := State.writeDone_cases hw
    split
    case h_2 => exact .refl
    case h_1 => exact (State.writes_orderly hdone).trans (State.endSave_orderly _ _)

/-- A port that is freed takes the read that waits for it (R144). -/
theorem State.portFreed_orderly (s : State) : Orderly s₀ s s.portFreed := by
  have hfree : Orderly s₀ s { s with port := none } := .portFree rfl
  exact hfree.trans (State.issueDeferred_orderly _)

/-- A finishing write completes (R142, R144). -/
theorem State.finishingDone_orderly (s : State) : Orderly s s s.finishingDone := by
  unfold State.finishingDone
  split
  case h_2 => exact .refl
  case h_1 address data ticks hp =>
    have hwrote : Orderly s s { s with store := Mem.writeBytes s.store address data } :=
      .wrote (State.mayHold_written hp rfl) rfl
    exact hwrote.trans (State.portFreed_orderly _)

/-! ### A load -/

/-- A walk goes on with a head read, or the load ends (R165, R171). -/
theorem State.walkOn_orderly (s : State) (area : Area) (h : Header) (channels : List Channel)
    (offset installed lost : Nat) :
    Orderly s₀ s (s.walkOn area h channels offset installed lost) := by
  cases channels with
  | nil => exact State.endLoad_orderly s _ _
  | cons c later => exact .away (portTimely_issue _ _ _) (by simp) rfl

/-- A channel that is lost was not BOUND (R169). -/
theorem State.markLost_orderly {l : LoadState} (hc : s.ctl = .loading l) {c : Channel}
    (hb : s₀.tableLaw → s.boundSlot c = none) (revision : Half) : Orderly s₀ s (s.markLost c revision) := by
  refine .table (m := (s.setEntry c { binding := .lost, revision }).map) (sl := s.slots) (.inr (by simp [hc])) ?_ rfl
  rintro h₀ d - - ⟨i, hd, hi⟩
  have hne : d ≠ c := by
    rintro rfl
    rw [State.boundSlot_eq, hd] at hb
    cases hb h₀
  exact ⟨i, (congrArg MapEntry.binding (s.entry_setEntry_other c _ d hne)).trans hd, hi⟩

/-- The rest of a walk is lost (R166). -/
theorem State.loseAll_orderly {l : LoadState} (cs : List Channel) (s : State) (hc : s.ctl = .loading l)
    (hb : s₀.tableLaw → ∀ c ∈ cs, s.boundSlot c = none) : Orderly s₀ s (cs.foldl (fun s c => s.markLost c 0#16) s) := by
  induction cs generalizing s with
  | nil => exact .refl
  | cons c cs ih =>
    refine (State.markLost_orderly hc (fun h₀ => hb h₀ c List.mem_cons_self) 0#16).trans (ih _ hc fun h₀ d hd => ?_)
    show (s.setEntry c { binding := .lost, revision := 0#16 }).boundSlot d = none
    rw [State.boundSlot_setEntry]
    split
    case isTrue => rfl
    case isFalse => exact hb h₀ d (List.mem_cons_of_mem _ hd)

/-- A load that ends with the rest of its walk lost (R166, R170). -/
theorem State.loseRest_orderly {l : LoadState} {w : Walk} (hc : s.ctl = .loading l)
    (hw : s₀.tableLaw → ∀ c ∈ w.expected :: w.later, s.boundSlot c = none) (o : LoadOutcome) (epoch : Word) :
    Orderly s₀ s ((s.loseRest w).endLoad o epoch) :=
  (State.loseAll_orderly _ s hc hw).trans (State.endLoad_orderly _ _ _)

/-- A load's install binds a channel that was not BOUND to a slot that was FREE (R168). -/
theorem State.loadInstall_orderly {l : LoadState} (hc : s.ctl = .loading l) {i : SlotIdx} {content : Content}
    (hi : (s.slot i).state = .free) (hb : s₀.tableLaw → s.boundSlot content.channel = none) :
    Orderly s₀ s (s.loadInstall i content) := by
  refine .table (m := (s.loadInstall i content).map) (sl := (s.loadInstall i content).slots) (.inr (by simp [hc])) ?_
    (by unfold State.loadInstall; cases dueBy s.partTime content <;> rfl)
  rintro h₀ d - - ⟨j, hd, hj⟩
  have hmap : (s.loadInstall i content).map = _ := congrArg View.map (s.loadInstall_view i content)
  have hne : d ≠ content.channel := by
    rintro rfl
    rw [State.boundSlot_eq, hd] at hb
    cases hb h₀
  refine ⟨j, ?_, ?_⟩
  · show ((s.loadInstall i content).map.get d).binding = _
    rw [hmap]
    exact (congrArg MapEntry.binding (State.entry_setEntry_other _ content.channel _ d hne)).trans hd
  · show ((s.loadInstall i content).slot j).state = _
    rw [State.slot_loadInstall, if_neg (by rintro rfl; rw [hi] at hj; cases hj), hj]

/-- The tail of the expected record has been read (R166 to R168). -/
theorem State.loadTail_orderly {l : LoadState} {w : Walk} {head : List Byte} (hc : s.ctl = .loading l)
    (hw : s₀.tableLaw → ∀ c ∈ w.expected :: w.later, s.boundSlot c = none)
    (hch : s₀.tableLaw → (decodeHead head).channel = w.expected) (tail : List Byte) :
    Orderly s₀ s (s.loadTail l w head tail) := by
  have hexp (h₀ : s₀.tableLaw) : s.boundSlot w.expected = none := hw h₀ _ List.mem_cons_self
  have lose : Orderly s₀ s ((s.markLost w.expected (decodeHead head).revision).walkOn w.area w.header w.later
      (w.offset + (decodeHead head).size) l.installed (l.lost + 1)) :=
    (State.markLost_orderly hc hexp _).trans (State.walkOn_orderly _ _ _ _ _ _ _)
  unfold State.loadTail
  simp only
  split
  case isTrue => exact State.loseRest_orderly hc hw _ _
  case isFalse =>
    split
    case isTrue => exact lose
    case isFalse =>
      split
      case h_1 => exact lose
      case h_2 i hi =>
        have hb (h₀ : s₀.tableLaw) : s.boundSlot (decodeRecord head tail).channel = none := by
          rw [show (decodeRecord head tail).channel = (decodeHead head).channel from rfl, hch h₀, hexp h₀]
        exact (State.loadInstall_orderly hc (State.room_free hi).2 hb).trans (State.walkOn_orderly _ _ _ _ _ _ _)

/-- The head of the expected record has been read (R165). -/
theorem State.loadHead_orderly {l : LoadState} {w : Walk} (hc : s.ctl = .loading l)
    (hw : s₀.tableLaw → ∀ c ∈ w.expected :: w.later, s.boundSlot c = none) (head : List Byte) :
    Orderly s₀ s (s.loadHead l w head) := by
  unfold State.loadHead
  simp only
  split
  case isTrue => exact State.loseRest_orderly hc hw _ _
  case isFalse ht =>
    split
    case isTrue =>
      refine State.loadTail_orderly hc hw (fun _ => ?_) []
      simp only [headTrusted, Bool.not_eq_true', Bool.not_eq_false, Bool.and_eq_true, beq_iff_eq] at ht
      exact ht.1.1
    case isFalse => exact .away (portTimely_issue _ _ _) (by simp) rfl

/-- A header of a load has been judged (R164). -/
theorem State.loadHeader_orderly (s : State) (l : LoadState) (found : Option Header) :
    Orderly s₀ s (s.loadHeader l found) := by
  unfold State.loadHeader
  split
  case h_1 => exact .away (portTimely_issue _ _ _) (by simp) rfl
  case h_2 =>
    unfold State.chooseImage
    split
    case h_1 => exact State.endLoad_orderly s _ _
    case h_2 => exact State.walkOn_orderly s _ _ _ _ _ _
  case h_3 => exact .refl

/-- What a walk has still to read is not BOUND (R163, R165). -/
theorem State.tableLaw.unbound {l : LoadState} {w : Walk} (h : s.tableLaw) (hc : s.ctl = .loading l)
    (hw : l.stage.walk = some w) : ∀ c ∈ w.expected :: w.later, s.boundSlot c = none := by
  obtain ⟨-, -, -, -, hl, -⟩ := h
  exact (hl.walk hc hw).2.2.2

/-- A header read of a load (R164). -/
theorem State.loadHeaderRead_orderly (s : State) : Orderly s₀ s s.loadHeaderRead := by
  unfold State.loadHeaderRead
  split
  case h_2 => exact .refl
  case h_1 l bytes _ _ =>
    split
    case isFalse => exact .refl
    case isTrue =>
      have hfree : Orderly s₀ s { s with port := none } := .portFree rfl
      exact hfree.trans (State.loadHeader_orderly _ l _)

/-- A head read of a load (R165). -/
theorem State.loadHeadRead_orderly (s : State) : Orderly s s s.loadHeadRead := by
  unfold State.loadHeadRead
  split
  case h_2 => exact .refl
  case h_1 l bytes hc _ =>
    split
    case h_2 => exact .refl
    case h_1 w hl =>
      have hfree : Orderly s s { s with port := none } := .portFree rfl
      exact hfree.trans (State.loadHead_orderly (s₀ := s) (s := { s with port := none }) hc
        (fun h => h.unbound hc (by rw [hl]; rfl)) bytes)

/-- A tail read of a load (R166). -/
theorem State.loadTailRead_orderly (s : State) : Orderly s s s.loadTailRead := by
  unfold State.loadTailRead
  split
  case h_2 => exact .refl
  case h_1 l bytes hc _ =>
    split
    case h_2 => exact .refl
    case h_1 w head hl =>
      have hfree : Orderly s s { s with port := none } := .portFree rfl
      have hch (h : s.tableLaw) : (decodeHead head).channel = w.expected := by
        obtain ⟨-, -, -, -, hload, -⟩ := h
        obtain ⟨-, -, hstage⟩ := (State.loadLaw_iff hc).1 hload
        rw [hl] at hstage
        exact hstage.2
      exact hfree.trans (State.loadTail_orderly (s₀ := s) (s := { s with port := none }) hc
        (fun h => h.unbound hc (by rw [hl]; rfl)) hch bytes)

/-- A load whose read has fallen silent (R164, R170). -/
theorem State.loadSilent_orderly {l : LoadState} (hl : s₀.tableLaw → s.tableLaw) (hc : s.ctl = .loading l) :
    Orderly s₀ s (s.loadSilent l) := by
  unfold State.loadSilent
  split
  case h_1 => exact .refl
  case h_2 => exact State.loadHeader_orderly s l none
  case h_3 => exact State.loadHeader_orderly s l none
  case h_4 w hw => exact State.loseRest_orderly hc (fun h₀ => (hl h₀).unbound hc (by rw [hw]; rfl)) _ _
  case h_5 w head hw => exact State.loseRest_orderly hc (fun h₀ => (hl h₀).unbound hc (by rw [hw]; rfl)) _ _

/-! ### A repair -/

/-- A repair's walk goes on, or the repair ends (R183). -/
theorem State.repairOn_orderly (s : State) (r : RepairState) (area : Area) (h : Header) (channels : List Channel)
    (offset : Nat) : Orderly s₀ s (s.repairOn r area h channels offset) := by
  cases channels with
  | nil => exact State.endRepair_orderly s _
  | cons c later => exact .away (portTimely_issue _ _ _) (by simp) rfl

/-- A header of a repair has been judged (R182). -/
theorem State.repairHeader_orderly (s : State) (r : RepairState) (found : Option Header) :
    Orderly s₀ s (s.repairHeader r found) := by
  unfold State.repairHeader
  split
  case h_1 => exact .away (portTimely_issue _ _ _) (by simp) rfl
  case h_2 =>
    unfold State.repairChoose
    split
    case h_1 => exact State.endRepair_orderly s _
    case h_2 =>
      split
      case isTrue => exact State.repairOn_orderly s _ _ _ _ _
      case isFalse => exact State.endRepair_orderly s _
  case h_3 => exact .refl

/-- A repair's install touches the map, the slots, the pool and the reasons alone (R185). -/
theorem State.repairInstall_ledger (s : State) (r : RepairState) (i : SlotIdx) (content : Content) :
    (s.repairInstall r i content).ledger =
      State.ledger { s with
        map := (s.setEntry r.target { binding := .bound i, revision := (s.entry r.target).revision }).map
        slots := (s.repairInstall r i content).slots } := by
  simp [State.repairInstall, State.release_eq, State.ledger]

/-- A repair's install supersedes the slot of the channel under repair alone (R185). -/
theorem State.repairInstall_orderly {r : RepairState} {i : SlotIdx} (hc₀ : s₀.ctl = .repairing r) (hc : s.ctl = .repairing r)
    (hl : s₀.tableLaw → s.tableLaw) (hb : s.boundSlot r.target = some r.slot) (hsus : (s.slot r.slot).state = .suspect)
    (hi : (s.slot i).state = .free) (content : Content) : Orderly s₀ s (s.repairInstall r i content) := by
  refine .table (.inr (by simp [hc])) ?_ (s.repairInstall_ledger r i content)
  rintro h₀ d - hd ⟨j, hbd, hj⟩
  have hne : d ≠ r.target := by rintro rfl; exact hd ⟨r, hc₀, rfl⟩
  have hjr : j ≠ r.slot := by
    rintro rfl
    exact hne (State.bound_unique (hl h₀).1 hbd ((s.boundSlot_iff _ _).1 hb))
  have hji : j ≠ i := by rintro rfl; rw [hi] at hj; cases hj
  have hri : r.slot ≠ i := by rintro rfl; rw [hi] at hsus; cases hsus
  refine ⟨j, (congrArg MapEntry.binding (State.entry_setEntry_other s r.target _ d hne)).trans hbd, ?_⟩
  show ((s.repairInstall r i content).slot j).state = _
  rw [State.slot_repairInstall s r content hri, if_neg hjr, if_neg hji, hj]

/-- The target's tail has been read (R184). -/
theorem State.repairTail_orderly {r : RepairState} (hc₀ : s₀.ctl = .repairing r) (hc : s.ctl = .repairing r)
    (hl : s₀.tableLaw → s.tableLaw) (w : Walk) (head tail : List Byte) : Orderly s₀ s (s.repairTail r w head tail) := by
  unfold State.repairTail
  simp only
  split
  case isTrue => exact State.endRepair_orderly s _
  case isFalse =>
    split
    case isTrue => exact State.endRepair_orderly s _
    case isFalse hb =>
      split
      case isTrue => exact State.endRepair_orderly s _
      case isFalse =>
        split
        case h_1 => exact State.endRepair_orderly s _
        case h_2 i hi =>
          simp only [not_or, ne_eq, not_not] at hb
          exact (State.repairInstall_orderly hc₀ hc hl hb.1 hb.2 (State.room_free hi).2 _).trans
            (State.endRepair_orderly _ _)

/-- A head of a repair's walk has been read (R183). -/
theorem State.repairHead_orderly {r : RepairState} (hc₀ : s₀.ctl = .repairing r) (hc : s.ctl = .repairing r)
    (hl : s₀.tableLaw → s.tableLaw) (w : Walk) (head : List Byte) : Orderly s₀ s (s.repairHead r w head) := by
  unfold State.repairHead
  simp only
  split
  case isTrue => exact State.endRepair_orderly s _
  case isFalse =>
    split
    case isTrue => exact State.repairOn_orderly s _ _ _ _ _
    case isFalse =>
      split
      case isTrue => exact State.endRepair_orderly s _
      case isFalse =>
        split
        case isTrue => exact State.repairTail_orderly hc₀ hc hl w head []
        case isFalse => exact .away (portTimely_issue _ _ _) (by simp) rfl

/-- A header read of a repair (R182). -/
theorem State.repairHeaderRead_orderly (s : State) : Orderly s₀ s s.repairHeaderRead := by
  unfold State.repairHeaderRead
  split
  case h_2 => exact .refl
  case h_1 r bytes _ _ =>
    split
    case isFalse => exact .refl
    case isTrue =>
      have hfree : Orderly s₀ s { s with port := none } := .portFree rfl
      exact hfree.trans (State.repairHeader_orderly _ r _)

/-- A head read of a repair (R183). -/
theorem State.repairHeadRead_orderly (s : State) : Orderly s s s.repairHeadRead := by
  unfold State.repairHeadRead
  split
  case h_2 => exact .refl
  case h_1 r bytes hc _ =>
    split
    case h_2 => exact .refl
    case h_1 w _ =>
      have hfree : Orderly s s { s with port := none } := .portFree rfl
      exact hfree.trans (State.repairHead_orderly (s := { s with port := none }) hc hc id w bytes)

/-- A tail read of a repair (R184). -/
theorem State.repairTailRead_orderly (s : State) : Orderly s s s.repairTailRead := by
  unfold State.repairTailRead
  split
  case h_2 => exact .refl
  case h_1 r bytes hc _ =>
    split
    case h_2 => exact .refl
    case h_1 w head _ =>
      have hfree : Orderly s s { s with port := none } := .portFree rfl
      exact hfree.trans (State.repairTail_orderly (s := { s with port := none }) hc hc id w head bytes)

/-- A repair whose read has fallen silent (R182, R186). -/
theorem State.repairSilent_orderly (s : State) (r : RepairState) : Orderly s₀ s (s.repairSilent r) := by
  unfold State.repairSilent
  split
  case h_1 => exact State.repairHeader_orderly s r none
  case h_2 => exact State.repairHeader_orderly s r none
  case h_3 => exact State.endRepair_orderly s _
  case h_4 => exact State.endRepair_orderly s _

end

end Sys2Proof.Machine

namespace Sys2Proof.Machine

section
variable {s₀ s t u : State}

/-! ### The tick -/

/-- The lease timer counts below its lease, or lapses (R65). -/
theorem State.leaseTick_orderly (hl : s₀.tableLaw → s.tableLaw) : Orderly s₀ s s.leaseTick := by
  unfold State.leaseTick
  split
  case h_1 l k hlease =>
    split
    case isTrue => exact (State.emptyEdits_orderly hl).to_ledger rfl
    case isFalse hk =>
      refine .edits (es := s.edits) (l := .counting l (k + 1)) (fun h => ?_) rfl
      rw [State.leaseLaw, hlease] at h
      obtain ⟨hset, hcount⟩ := h
      refine ⟨by simpa using hset, ?_⟩
      show k + 1 < l.toNat
      omega
  case h_2 => exact .refl
  case h_3 => exact .refl

/-- The time base keeps the millisecond count below its end (R112, R113). -/
theorem State.timeTick_orderly (s : State) : Orderly s s s.timeTick := by
  have count {t : State} {n : Nat} (hn : n < 1000) (e : t.ledger = State.ledger { s with msCount := n }) :
      Orderly s s t :=
    .counts (k := s.scrubCount) (c := s.control) (fun ⟨_, h2, h3⟩ => ⟨hn, h2, h3⟩) id e
  unfold State.timeTick
  split
  case isTrue =>
    let x : State := { s with partTime := nextSecond s.partTime, msCount := 0 }
    have hx : Orderly s s x := count (n := 0) (Nat.zero_lt_succ 999) rfl
    exact (hx.trans (State.leaseTick_orderly id)).trans (State.sweep_orderly _)
  case isFalse h =>
    have hn : s.msCount + 1 < 1000 := by
      simp only [State.secondDue, decide_eq_true_eq] at h
      omega
    exact count hn rfl

/-- The time base does not touch the port and the store. -/
theorem State.timeTick_port (s : State) : s.timeTick.port = s.port ∧ s.timeTick.store = s.store := by
  have hempty (s : State) : s.emptyEdits.port = s.port ∧ s.emptyEdits.store = s.store := by
    unfold State.emptyEdits
    rw [State.discardAll_frame]
    exact ⟨rfl, rfl⟩
  unfold State.timeTick
  split
  case isFalse => exact ⟨rfl, rfl⟩
  case isTrue =>
    show (State.leaseTick _).port = s.port ∧ (State.leaseTick _).store = s.store
    unfold State.leaseTick
    split
    case h_1 =>
      split
      case isTrue => exact hempty { s with partTime := nextSecond s.partTime, msCount := 0 }
      case isFalse => exact ⟨rfl, rfl⟩
    case h_2 => exact ⟨rfl, rfl⟩
    case h_3 => exact ⟨rfl, rfl⟩

/-- Out of reset the time base keeps the law of the record store (R65, R113). -/
theorem State.tableLaw.timeTick (h : s.tableLaw) (hh : s.held = false) : s.timeTick.tableLaw := by
  have hlawful : s.lawful := ⟨h, fun hd => by rw [hh] at hd; cases hd⟩
  have hmoves := State.timeTick_moves (s₀ := s) s
  exact (hmoves.run.keeps hlawful (fun _ _ hm => hm.lawful) (fun _ _ ht => ht.lawful)).1

/-- A page write that falls silent was taken or not (R148). -/
theorem State.afterSilence_orderly (hport : s.port = s₀.port) (hstore : s.store = s₀.store) {p : Transfer}
    (hp : s.port = some p) (took : Bool) : Orderly s₀ s (s.afterSilence p took) := by
  unfold State.afterSilence
  cases hk : p.kind with
  | read n => exact .portFree rfl
  | write data =>
    have hmay : s₀.mayHold (if took then Mem.cutWrite s.store p.address data else s.store) := by
      rw [hstore]
      cases took with
      | false => exact .inl rfl
      | true => exact .inr ⟨p, hport ▸ hp, data, hk, data, le_rfl, .inr rfl⟩
    have hwrote : Orderly s₀ s { s with store := if took then Mem.cutWrite s.store p.address data else s.store } :=
      .wrote hmay rfl
    exact hwrote.trans (.portFree rfl)

/-- The operation whose transfer has fallen silent is told (R143). -/
theorem State.silence_orderly (hl : s₀.tableLaw → s.tableLaw) (hport : s.port = s₀.port) (hstore : s.store = s₀.store)
    {p : Transfer} (hp : s.port = some p) (took : Bool) : Orderly s₀ s (s.silence p took) := by
  have hafter := State.afterSilence_orderly hport hstore hp took
  have hlaw (h₀ : s₀.tableLaw) : (s.afterSilence p took).tableLaw := by
    unfold State.afterSilence
    cases p.kind <;> exact hl h₀
  refine hafter.trans ?_
  unfold State.silence
  simp only
  split
  case isTrue => exact State.portFreed_orderly _
  case isFalse =>
    split
    case h_1 v _ => exact State.endSave_orderly _ _
    case h_2 l hc => exact State.loadSilent_orderly hlaw hc
    case h_3 r _ => exact State.repairSilent_orderly _ r
    case h_4 => exact .refl

/-- The silence timer stays below its end (R143). -/
theorem State.portTick_orderly (hl : s₀.tableLaw → s.tableLaw) (hport : s.port = s₀.port) (hstore : s.store = s₀.store)
    (took : Bool) : Orderly s₀ s (s.portTick took) := by
  unfold State.portTick
  split
  case h_1 => exact .refl
  case h_2 p hp =>
    split
    case isTrue => exact State.silence_orderly hl hport hstore hp took
    case isFalse hdue =>
      have hdue : p.ticks + 1 < Config.silenceTicks := by
        simp only [Transfer.silenceDue, decide_eq_true_eq] at hdue
        omega
      refine ⟨id, fun ⟨h1, _, h3⟩ => ⟨h1, ?_, h3⟩, id, id, fun _ => id, fun _ _ _ h => ?_, id⟩
      · rintro _ ⟨⟩
        exact hdue
      · refine h.port rfl rfl ?_
        rintro _ ⟨⟩
        exact ⟨p, hp, rfl, rfl, rfl⟩

/-- The step timer stays below the step (R174 to R176). -/
theorem State.scrubTick_orderly (s : State) : Orderly s₀ s s.scrubTick := by
  have count {n : Nat} (hn : n = 0 ∨ n < s.control.step.toNat) : Orderly s₀ s { s with scrubCount := n } :=
    .counts (n := s.msCount) (k := n) (c := s.control) (fun ⟨h1, h2, _⟩ => ⟨h1, h2, hn⟩) id rfl
  have check (s : State) : Orderly s₀ s s.scrubCheck := by
    unfold State.scrubCheck
    split
    case h_1 => exact .refl
    case h_2 i _ =>
      simp only
      split
      case isTrue => exact .quiet rfl
      case isFalse =>
        let x : State := { s with scrubPos := i + 1 }
        have hx : Orderly s₀ x (x.mismatch i).startRepair :=
          (State.mismatch_orderly x i).trans (State.startRepair_orderly _)
        exact hx.of_ledger rfl
  unfold State.scrubTick
  split
  case isTrue => exact count (.inl rfl)
  case isFalse hz =>
    split
    case isTrue => exact (count (.inl rfl)).trans (check _)
    case isFalse hd =>
      refine count (.inr ?_)
      simp only [State.stepDue, Bool.and_eq_true, bne_iff_ne, ne_eq, hz, not_false_eq_true, true_and,
        decide_eq_true_eq] at hd
      omega

/-- What is not taken while the device is held (R160; log entry 12). -/
theorem State.awake_orderly {f : State → State} (h : s.held = false → Orderly s₀ s (f s)) :
    Orderly s₀ s (s.awake f) := by
  cases hh : s.held with
  | true => rw [State.awake_held hh]; exact .refl
  | false => rw [State.awake_running hh]; exact h hh

/-- A millisecond tick, its three parts in turn (R112, R143, R174). -/
theorem State.tick_orderly (s : State) (took : Bool) : Orderly s s (s.tick took) :=
  State.awake_orderly fun hh => by
    obtain ⟨hport, hstore⟩ := s.timeTick_port
    have hsilence := State.portTick_orderly (s₀ := s) (fun h => h.timeTick hh) hport hstore took
    exact ((State.timeTick_orderly s).trans hsilence).trans (State.scrubTick_orderly _)

/-- Where a row of the table names a tick, the tick is taken or nothing is. -/
theorem State.tick_row_orderly {b : Prop} [Decidable b] (s : State) (took : Bool) :
    Orderly s s (if b then s.tick took else s) := by
  split
  case isTrue => exact State.tick_orderly s took
  case isFalse => exact .refl

/-! ### The step -/

/-- A reset may cut a page write (R153). -/
theorem State.mayHold_afterCut (s : State) (torn : List Byte) : s.mayHold (s.storeAfterCut torn) := by
  unfold State.storeAfterCut
  split
  case h_1 address data finishing ticks hp =>
    exact .inr ⟨_, hp, data, rfl, _, List.length_take_le _ _, .inr rfl⟩
  case h_2 => exact .inl rfl

/-- The end of a reset begins the boot load (R160). -/
theorem State.bootLoad_orderly (s : State) (csLow : Bool) : Orderly s₀ s (s.bootLoad csLow) := by
  unfold State.bootLoad
  split
  case isTrue => exact .startLoad rfl
  case isFalse => exact .refl

/-- A frame that fails its checks changes the buffer alone (R190). -/
theorem State.takeFrameError_orderly (s : State) (code : Option Byte) (e : FrameError) :
    Orderly s₀ s (s.takeFrameError code e) := by
  unfold State.takeFrameError
  split
  case isTrue => exact .refl
  case isFalse => split <;> exact .quiet rfl

/-- A frame whose payload has a wrong length is refused; Restart's drops the probe (R191; log entry 15). -/
theorem State.takeBadLength_orderly (s : State) (k : CommandCode) : Orderly s₀ s (s.takeBadLength k) := by
  have refused (s : State) : Orderly s₀ s
      (if loadingFirst k && s.isLoading then Answer.refuse s .loading else .refuse s .badParam).state := by
    split <;> exact .refl
  unfold State.takeBadLength
  simp only
  split
  case isFalse => exact State.takeFrame_orderly (refused _)
  case isTrue =>
    have h : Orderly s₀ s _ := (refused s.dropProbe.count).of_ledger rfl
    exact h.to_ledger rfl

/-- A taken command. -/
theorem runCommand_orderly (hl : s₀.tableLaw → s.tableLaw) (i : Instr) (h : runCommand i s = .next t) :
    Orderly s₀ s t := by
  have hcount : s₀.tableLaw → s.count.tableLaw := hl
  cases i <;> cases h
  case openEdit c kind => exact State.takeFrame_orderly (openEdit_orderly c kind)
  case setFields c f => exact State.takeFrame_orderly (setFields_orderly c f)
  case setLabel c label => exact State.takeFrame_orderly (setLabel_orderly c label)
  case putPoints c start points => exact State.takeFrame_orderly (putPoints_orderly c start points)
  case trimPoints c count => exact State.takeFrame_orderly (trimPoints_orderly c count)
  case dropEdit c => exact State.takeFrame_orderly (dropEdit_orderly hcount c)
  case abandon => exact State.takeFrame_orderly (abandon_orderly hcount)
  case commit => exact State.takeFrame_orderly (commit_orderly hcount)
  case readEditSet start =>
    refine State.takeFrame_orderly ?_
    unfold readEditSet
    split <;> exact .refl
  case probe c raw which =>
    refine State.takeFrame_orderly (unlessLoading_orderly ?_)
    repeat' split
    all_goals exact .quiet rfl
  case readMapEntry c => exact State.takeFrame_orderly .refl
  case readRecord c which =>
    refine State.takeFrame_orderly ?_
    unfold readRecord
    split <;> exact .refl
  case readPoints c which start count =>
    refine State.takeFrame_orderly ?_
    unfold readPoints
    split
    case h_1 => exact .refl
    case h_2 => simp only; split <;> exact .refl
  case setTime seconds => exact State.takeFrame_orderly (setTime_orderly seconds)
  case readAttention start => exact State.takeFrame_orderly .refl
  case clearReasons c selection =>
    refine State.takeFrame_orderly ?_
    unfold clearReasons
    split <;> exact .quiet rfl
  case clearCauses selection =>
    refine State.takeFrame_orderly ?_
    unfold clearCauses
    split <;> exact .quiet rfl
  case save => exact State.takeFrame_orderly (saveCommand_orderly hcount)
  case stopSave => exact State.takeFrame_orderly stopSaveCommand_orderly
  case reload => exact State.takeFrame_orderly reload_orderly
  case setControl selection values => exact State.takeFrame_orderly (setControl_orderly selection values)
  case readControl => exact State.takeFrame_orderly .refl
  case readStatus =>
    exact State.takeFrame_orderly
      (.requeue (q := s.repairQueue) (n := 0) (fun ⟨h1, h2, _⟩ => ⟨h1, h2, Nat.zero_le 255⟩) (fun _ hc => .inl hc) rfl)
  case readIdentity => exact State.takeFrame_orderly .refl
  case restart =>
    split
    case isTrue => exact State.restart_orderly hl
    case isFalse => exact .refl
  all_goals exact .refl

/-- A command write runs its command, or answers its error (R189 to R191). -/
theorem State.commandWrite_orderly {bytes : List Byte} (h : s.commandWrite bytes = .next t) : Orderly s s t := by
  unfold State.commandWrite at h
  simp only at h
  split at h
  case h_1 => cases h; exact (State.takeFrameError_orderly _ _ _).of_ledger rfl
  case h_2 k payload _ =>
    split at h
    case h_1 => cases h; exact (State.takeBadLength_orderly _ _).of_ledger rfl
    case h_2 i _ =>
      let x : State := { s with sdo := List.replicate (bytes.length + 1) 0#8 }
      exact (runCommand_orderly (s₀ := s) (s := x) id i h).of_ledger rfl

/-- Every row of the table keeps these laws. -/
theorem exec_orderly (i : Instr) (h : exec i s = .next t) : Orderly s s t := by
  have command (hc : exec i s = runCommand i s) : Orderly s s t := runCommand_orderly id i (hc ▸ h)
  have next {u : State} (e : exec i s = .next u) : t = u := by rw [e] at h; cases h; rfl
  have awake {f : State → State} (hf : Orderly s s (f s)) (e : t = s.awake f) : Orderly s s t :=
    e ▸ State.awake_orderly fun _ => hf
  cases i
  case powerOnReset torn => exact next rfl ▸ .reset (s.mayHold_afterCut torn) rfl
  case pinReset torn => exact next rfl ▸ .reset (s.mayHold_afterCut torn) rfl
  case bootLoad csLow => exact next rfl ▸ State.bootLoad_orderly s csLow
  case commandWrite bytes =>
    by_cases ho : s.portOpen = true
    · exact State.commandWrite_orderly ((if_pos ho).symm.trans h)
    · have := next (if_neg ho)
      exact this ▸ .refl
  case frameError code e => exact next rfl ▸ State.takeFrameError_orderly s code e
  case responseRead n =>
    have := next rfl
    subst this
    split <;> exact .quiet rfl
  case ignoredTransaction bytes =>
    have := next rfl
    subst this
    split <;> exact .quiet rfl
  case requestArrival n word =>
    have : t = s.arrive n word := next rfl
    subst this
    unfold State.arrive
    split <;> exact .quiet rfl
  case resultTake n => exact next rfl ▸ .quiet rfl
  case laneGrant => exact awake (State.laneGrant_orderly s) (next rfl)
  case probeGrant => exact awake (State.probeGrant_orderly s) (next rfl)
  case laneCompletion k => exact awake (State.laneCompletion_orderly s k) (next rfl)
  case probeCompletion k => exact awake (State.probeCompletion_orderly s k) (next rfl)
  case millisecondTick took => exact next rfl ▸ State.tick_orderly s took
  case secondsTick took => exact next rfl ▸ State.tick_row_orderly s took
  case leaseLapse took => exact next rfl ▸ State.tick_row_orderly s took
  case stepExpiry took => exact next rfl ▸ State.tick_row_orderly s took
  case upset i content =>
    have : t = s.upset i content := next rfl
    subst this
    unfold State.upset
    split
    case isTrue => exact .setSlot (i := i) (v := { s.slot i with content }) (fun _ => id) rfl
    case isFalse => exact .refl
  case saveHeaderReadCompletion => exact awake (State.saveHeaderRead_orderly s) (next rfl)
  case invalidateWriteCompletion => exact awake (State.invalidateDone_orderly s) (next rfl)
  case bodyWriteCompletion => exact awake (State.bodyDone_orderly s) (next rfl)
  case headerWriteCompletion => exact awake (State.headerDone_orderly s) (next rfl)
  case markerWriteCompletion => exact awake (State.markerDone_orderly s) (next rfl)
  case saveStoreSilence took => exact next rfl ▸ State.tick_row_orderly s took
  case finishingWriteCompletion => exact awake (State.finishingDone_orderly s) (next rfl)
  case finishingWriteSilence took => exact next rfl ▸ State.tick_row_orderly s took
  case deferredTransferIssue => exact awake (State.issueDeferred_orderly s) (next rfl)
  case tableClear => exact awake (State.endDrain_orderly s) (next rfl)
  case loadHeaderReadCompletion => exact awake (State.loadHeaderRead_orderly s) (next rfl)
  case loadHeaderSilence => exact next rfl ▸ State.tick_row_orderly s false
  case loadHeadReadCompletion => exact awake (State.loadHeadRead_orderly s) (next rfl)
  case loadTailReadCompletion => exact awake (State.loadTailRead_orderly s) (next rfl)
  case loadWalkSilence => exact next rfl ▸ State.tick_row_orderly s false
  case repairStart => exact awake (State.startRepair_orderly s) (next rfl)
  case repairHeaderReadCompletion => exact awake (State.repairHeaderRead_orderly s) (next rfl)
  case repairHeadReadCompletion => exact awake (State.repairHeadRead_orderly s) (next rfl)
  case repairTailReadCompletion => exact awake (State.repairTailRead_orderly s) (next rfl)
  case repairStoreSilence => exact next rfl ▸ State.tick_row_orderly s false
  case chipSelectRiseAfterReset => exact awake (.quiet rfl) (next rfl)
  all_goals exact command rfl

/-- Every step keeps these laws. -/
theorem step_orderly (h : step s = .next t) : Orderly s s t := by
  unfold step at h
  split at h
  case h_1 => cases h; exact .refl
  case h_2 i rest _ =>
    obtain ⟨hlease, htimer, hcontrol, hqueue, hqueued, hsave, hstore⟩ := exec_orderly i h
    exact ⟨hlease, htimer, hcontrol, hqueue, hqueued, hsave, hstore⟩

/-! ### A save and the other area -/

/-- Whatever a page write leaves, the store stays in canonical form (R137). -/
theorem State.mayHold.wf {m : Mem} (h : s.mayHold m) (hs : Mem.wf s.store = true) : Mem.wf m = true := by
  obtain rfl | ⟨p, -, data, -, bytes, -, rfl | rfl⟩ := h
  · exact hs
  · exact Mem.wf_writeBytes _ _ _ hs
  · exact Mem.wf_cutWrite _ _ _ hs

/-- Whatever a page write leaves, the addresses outside it keep their bytes (R142, R153). -/
theorem State.mayHold.outside {m : Mem} (h : s.mayHold m) {a : Nat}
    (ha : ∀ p ∈ s.port, ∀ data, p.kind = .write data →
      p.address + data.length ≤ Config.storeBytes ∧ (a < p.address ∨ p.address + data.length ≤ a)) :
    Mem.read m a = Mem.read s.store a := by
  obtain rfl | ⟨p, hp, data, hk, bytes, hlen, hm⟩ := h
  · rfl
  · obtain ⟨hfit, hout⟩ := ha p hp data hk
    obtain rfl | rfl := hm
    · exact Mem.read_writeBytes_outside _ _ _ _ (by omega) (by omega)
    · exact Mem.read_cutWrite_outside _ _ _ _ (by omega) (by omega)

/-- From the choice of its target on, a save writes inside the target area (R148, R149, R151). -/
theorem State.saveLaw.inside {v : SaveState} {g : Target} (h : s.saveLaw) (hc : s.ctl = .saving v)
    (hg : v.stage.target = some g) {p : Transfer} (hp : p ∈ s.port) {data : List Byte} (hk : p.kind = .write data) :
    g.area.base ≤ p.address ∧ p.address + data.length ≤ g.area.base + 32768 := by
  obtain ⟨hcount, hport⟩ := (State.saveLaw_iff hc).1 h
  have at_base {n : Nat} (hn : n ≤ 64)
      (h : ∀ t ∈ s.port, t.finishing = false ∧ t.address = g.area.base ∧ ∃ data, t.kind = .write data ∧ data.length = n) :
      g.area.base ≤ p.address ∧ p.address + data.length ≤ g.area.base + 32768 := by
    obtain ⟨-, ha, data', hk', hlen⟩ := h p hp
    obtain rfl : data = data' := by simpa using hk.symm.trans hk'
    omega
  obtain ⟨st, ep, last, rest, dn, wr⟩ := v
  cases st <;> cases hg
  case invalidate => exact at_base (by decide) hport.2
  case header => exact at_base le_rfl hport
  case marker => exact at_base (by decide) hport
  case body =>
    obtain ⟨-, ha, data', hk', hbody⟩ := hport p hp
    obtain rfl : data = data' := by simpa using hk.symm.trans hk'
    simp only [SaveState.bodyLaw] at hbody hcount
    rw [ha]
    simp only
    omega

/-- An address of one area lies outside the other. -/
theorem Area.outside {area : Area} {a : Nat} (h : areaOfAddress a ≠ area) : a < area.base ∨ area.base + 32768 ≤ a := by
  unfold areaOfAddress at h
  cases area <;> simp [Area.base] at h ⊢ <;> omega

/-- Both areas lie in the store (R137). -/
theorem Area.base_le (area : Area) : area.base + 32768 ≤ Config.storeBytes := by cases area <;> decide

/-- The addresses of an area's header are its own (R137). -/
theorem Area.header_address (area : Area) {i : Nat} (hi : i < 64) :
    areaOfAddress ((area.base + i) % Config.storeBytes) = area := by
  unfold areaOfAddress
  cases area with
  | a => exact if_pos (by simp only [Area.base, Config.storeBytes]; omega)
  | b => exact if_neg (by simp only [Area.base, Config.storeBytes]; omega)

/-- An area's image depends on the bytes at its own addresses (R140). -/
theorem Mem.image_congr {m m' : Mem} {area : Area} (h : ∀ a, areaOfAddress a = area → Mem.read m' a = Mem.read m a) :
    Mem.image m' area = Mem.image m area := by
  have : Mem.readBytes m' area.base 64 = Mem.readBytes m area.base 64 :=
    List.map_congr_left fun i hi => h _ (area.header_address (List.mem_range.1 hi))
  rw [Mem.image, this, Mem.image]

/-- Settles O59: each part of a step keeps these laws, and what it leaves in the store is what the page write in progress
may leave, which a save's law places in the target area. -/
theorem timerQueueAndStoreLawsAreKept : Obligations.TimerQueueAndStoreLawsAreKept := by
  refine ⟨⟨fun _ _ h hs => (step_orderly hs).lease h, fun _ _ h hs => (step_orderly hs).timer h,
    fun _ _ h hs => (step_orderly hs).control h, fun _ _ h hs => (step_orderly hs).queue h⟩,
    fun _ _ h hs => ((step_orderly hs).store (.inl rfl)).wf h, ?_, ?_, ?_⟩
  · intro s t htable hqueued hs c hc hr
    exact (step_orderly hs).queued htable (fun d hd _ => hqueued d hd) c hc fun ⟨r, hctl, ht⟩ => hr r hctl ht
  · exact fun s t htable hread hsave hs => (step_orderly hs).save htable hread hsave hsave
  · intro s t v g hsave hc hg hs
    have hkept (a : Nat) (ha : areaOfAddress a ≠ g.area) : Mem.read t.store a = Mem.read s.store a := by
      refine ((step_orderly hs).store (.inl rfl)).outside fun p hp data hk => ?_
      obtain ⟨hlow, hhigh⟩ := hsave.inside hc hg hp hk
      have hbase := g.area.base_le
      have hout := Area.outside ha
      omega
    refine ⟨hkept, Mem.image_congr fun a ha => hkept a ?_⟩
    rw [ha]
    cases g.area <;> simp [Area.other]

end

end Sys2Proof.Machine

namespace Sys2Proof.Machine

section
variable {s : State} {c : Channel}

/-! ### A command's answer (R191) -/

/-- A heard command whose answer counts up from `t` leaves what R191 makes of `t`. -/
theorem exec_answered {i : Instr} {k : CommandCode} {run : State → Answer} {t : State} {st : Status}
    {payload : List Byte} (hi : exec i s = .next (s.takeFrame k run)) (h : s.hears)
    (hr : run s.count = { state := t.count, status := st, payload }) : exec i s = .next (t.answered k st payload) := by
  rw [hi, State.takeFrame_heard h, hr, Answer.respond_counted]

/-- A load in progress is the first check (R50). -/
theorem unlessLoading_loading (h : s.isLoading = true) (run : State → Answer) :
    unlessLoading run s = .refuse s .loading := if_pos h

/-- Where no load is in progress the command's own checks follow (R50). -/
theorem unlessLoading_running (h : s.isLoading = false) (run : State → Answer) : unlessLoading run s = run s :=
  if_neg (by simp [h])

/-! ### The kinds of an entry (R51, R52) -/

/-- A kind's code names that kind (R204). -/
theorem kindOfCode_kindCode (kind : EditKind) : kindOfCode (kindCode kind) = some kind := by cases kind <;> rfl

/-- The codes are 00h to 03h (R204). -/
theorem kindOfCode_none {b : Byte} (h : 3 < b.toNat) : kindOfCode b = none := by
  have other (k : Byte) (hk : k.toNat ≤ 3) : b ≠ k := by
    rintro rfl
    omega
  simp [kindOfCode, other 0#8 (by decide), other 1#8 (by decide), other 2#8 (by decide), other 3#8 (by decide)]

/-- The codes 00h to 03h each name a kind (R204). -/
theorem exists_kindCode {b : Byte} (h : b.toNat ≤ 3) : ∃ kind, b = kindCode kind := by
  have hb {k : Byte} (hk : b.toNat = k.toNat) : b = k := BitVec.eq_of_toNat_eq hk
  obtain h | h | h | h : b.toNat = 0 ∨ b.toNat = 1 ∨ b.toNat = 2 ∨ b.toNat = 3 := by omega
  · exact ⟨.create, hb h⟩
  · exact ⟨.replaceCopy, hb h⟩
  · exact ⟨.replaceEmpty, hb h⟩
  · exact ⟨.retire, hb h⟩

/-- CREATE is for a channel that is not BOUND (R52). -/
theorem State.kindFits_create : s.kindFits c .create = true ↔ ∀ j, (s.entry c).binding ≠ .bound j := by
  unfold State.kindFits
  cases (s.entry c).binding <;> simp

/-- REPLACE_COPY is for a channel BOUND to an ACTIVE slot (R52). -/
theorem State.kindFits_replaceCopy :
    s.kindFits c .replaceCopy = true ↔ ∃ j, (s.entry c).binding = .bound j ∧ (s.slot j).state = .active := by
  unfold State.kindFits
  cases (s.entry c).binding <;> simp

/-- REPLACE_EMPTY is for a channel BOUND to an ACTIVE or SUSPECT slot (R52). -/
theorem State.kindFits_replaceEmpty :
    s.kindFits c .replaceEmpty = true ↔
      ∃ j, (s.entry c).binding = .bound j ∧ ((s.slot j).state = .active ∨ (s.slot j).state = .suspect) := by
  unfold State.kindFits
  cases (s.entry c).binding <;> simp

/-- RETIRE is for a channel that is not UNASSIGNED (R52). -/
theorem State.kindFits_retire : s.kindFits c .retire = true ↔ (s.entry c).binding ≠ .unassigned := by
  unfold State.kindFits
  cases (s.entry c).binding <;> simp

/-! ### Open Edit (R51 to R55) -/

/-- LOADING is Open Edit's first check (R51). -/
theorem openEdit_loading (hl : s.isLoading = true) (b : Byte) : openEdit c b s = .refuse s .loading :=
  unlessLoading_loading hl _

/-- A code that names no kind is Open Edit's second check (R51). -/
theorem openEdit_badParam (hl : s.isLoading = false) {b : Byte} (hb : kindOfCode b = none) :
    openEdit c b s = .refuse s .badParam := by
  rw [openEdit, unlessLoading_running hl]
  simp only [hb]

/-- An entry of the channel is Open Edit's third check (R51). -/
theorem openEdit_inEdit (hl : s.isLoading = false) (kind : EditKind) (hc : ∃ e ∈ s.edits, e.channel = c) :
    openEdit c (kindCode kind) s = .refuse s .inEdit := by
  have hfound : (s.findEdit c).isSome = true := by
    rw [Option.isSome_iff_ne_none, Ne, State.findEdit_none_iff]
    obtain ⟨e, he, hec⟩ := hc
    exact fun h => h e he hec
  rw [openEdit, unlessLoading_running hl]
  simp only [kindOfCode_kindCode, if_pos hfound]

/-- Open Edit from its fourth check on (R51). -/
theorem openEdit_of_new (hl : s.isLoading = false) (kind : EditKind) (hc : ∀ e ∈ s.edits, e.channel ≠ c) :
    openEdit c (kindCode kind) s =
      if 16 ≤ s.edits.length then .refuse s .setFull
      else if !s.kindFits c kind then .refuse s .wrongState
      else if kind = .retire then s.openEntry c kind none
      else s.openStaged c kind := by
  rw [openEdit, unlessLoading_running hl]
  simp only [kindOfCode_kindCode, (State.findEdit_none_iff s c).2 hc]
  rfl

/-- A full set is Open Edit's fourth check (R51). -/
theorem openEdit_setFull (hl : s.isLoading = false) (kind : EditKind) (hc : ∀ e ∈ s.edits, e.channel ≠ c)
    (hfull : 16 ≤ s.edits.length) : openEdit c (kindCode kind) s = .refuse s .setFull := by
  rw [openEdit_of_new hl kind hc, if_pos hfull]

/-- A kind that does not fit is Open Edit's fifth check (R51, R52). -/
theorem openEdit_wrongState (hl : s.isLoading = false) (kind : EditKind) (hc : ∀ e ∈ s.edits, e.channel ≠ c)
    (hroom : s.edits.length < 16) (hk : s.kindFits c kind ≠ true) :
    openEdit c (kindCode kind) s = .refuse s .wrongState := by
  rw [openEdit_of_new hl kind hc, if_neg (Nat.not_le.2 hroom), if_pos (by simpa using hk)]

/-- RETIRE takes no slot (R53, R55). -/
theorem openEdit_retire (hl : s.isLoading = false) (hc : ∀ e ∈ s.edits, e.channel ≠ c) (hroom : s.edits.length < 16)
    (hk : s.kindFits c .retire = true) : openEdit c (kindCode .retire) s = s.openEntry c .retire none := by
  rw [openEdit_of_new hl .retire hc, if_neg (Nat.not_le.2 hroom), if_neg (by simp [hk]), if_pos rfl]

/-- The other kinds go on to the slot (R51, R53). -/
theorem openEdit_staged (hl : s.isLoading = false) {kind : EditKind} (hr : kind ≠ .retire)
    (hc : ∀ e ∈ s.edits, e.channel ≠ c) (hroom : s.edits.length < 16) (hk : s.kindFits c kind = true) :
    openEdit c (kindCode kind) s = s.openStaged c kind := by
  rw [openEdit_of_new hl kind hc, if_neg (Nat.not_le.2 hroom), if_neg (by simp [hk]), if_neg hr]

/-- No FREE slot is the sixth check (R51). -/
theorem State.openStaged_noSlot (hf : ∀ i, (s.slot i).state ≠ .free) (kind : EditKind) :
    s.openStaged c kind = .refuse s .noSlot := by
  simp only [State.openStaged, State.lowestFree_none hf]

/-- A kind that copies nothing takes the slot with the empty defaults (R53, R55). -/
theorem State.openStaged_empty {i : SlotIdx} (hi : s.lowestFree = some i) {kind : EditKind} (hk : kind ≠ .replaceCopy) :
    s.openStaged c kind = s.openEntry c kind (some (i, stagedContent c none)) := by
  unfold State.openStaged
  rw [hi]
  cases kind with
  | replaceCopy => exact absurd rfl hk
  | _ => rfl

/-- REPLACE_COPY from its seventh check on (R51, R54). -/
theorem State.openStaged_copy {i src : SlotIdx} (hi : s.lowestFree = some i) (hb : (s.entry c).binding = .bound src) :
    s.openStaged c .replaceCopy =
      if s.freeCells < (s.slot src).content.points.length then .refuse s .poolFull
      else if contentCrc (s.slot src).content ≠ (s.slot src).content.crc then
        .refuse (s.mismatch src).withRepair .wrongState
      else s.openEntry c .replaceCopy (some (i, stagedContent c (some (s.slot src).content))) := by
  simp only [State.openStaged, hi, (s.boundSlot_iff c src).2 hb, State.startRepair_eq, ← contentSound_iff,
    Bool.not_eq_true', ne_eq, Bool.not_eq_true]

/-- Settles O12: the kind fits, a slot and the cells are there, and the entry is opened. -/
theorem openEditStagesItsEntry : Obligations.OpenEditStagesItsEntry := by
  refine ⟨fun c b kind i s h hl hkind hc hroom hi => ?_, fun c i src s h hl hb ha hc hroom hi hcells hcrc => ?_,
    fun c s h hl hb hc hroom => ?_⟩
  · obtain ⟨hb, hr, hcopy, hfits⟩ :
        b = kindCode kind ∧ kind ≠ .retire ∧ kind ≠ .replaceCopy ∧ s.kindFits c kind = true := by
      obtain ⟨rfl, rfl, hbind⟩ | ⟨rfl, rfl, hbind⟩ := hkind
      · exact ⟨rfl, by decide, by decide, State.kindFits_create.2 hbind⟩
      · exact ⟨rfl, by decide, by decide, State.kindFits_replaceEmpty.2 hbind⟩
    subst hb
    refine exec_answered (run := openEdit c (kindCode kind)) rfl h ?_
    have hi : s.count.lowestFree = some i := State.lowestFree_of hi
    rw [openEdit_staged (s := s.count) hl hr hc hroom hfits, State.openStaged_empty hi hcopy]
    rfl
  · refine exec_answered (run := openEdit c (kindCode .replaceCopy)) rfl h ?_
    have hi : s.count.lowestFree = some i := State.lowestFree_of hi
    rw [openEdit_staged (s := s.count) hl (by decide) hc hroom (State.kindFits_replaceCopy.2 ⟨src, hb, ha⟩),
      State.openStaged_copy hi hb]
    exact (if_neg (Nat.not_lt.2 hcells)).trans (if_neg (not_not.2 hcrc))
  · refine exec_answered (run := openEdit c (kindCode .retire)) rfl h ?_
    rw [openEdit_retire (s := s.count) hl hc hroom (State.kindFits_retire.2 hb)]
    rfl

/-- A repair that may start is that of the queue's head (R146). -/
def State.repairWaits (s : State) : Prop :=
  ∃ c i rest, s.ctl = .idle ∧ s.repairQueue = c :: rest ∧ s.control.repairEnable = true ∧ (s.entry c).binding = .bound i

/-- Where no repair may start the state stays (R146). -/
theorem State.withRepair_stays (h : ¬ s.repairWaits) : s.withRepair = s := by
  obtain hstays | ⟨c, i, rest, hc, hq, he, hb, -⟩ := s.withRepair_cases
  · exact hstays s.scrubCount
  · exact absurd ⟨c, i, rest, hc, hq, he, hb⟩ h

/-- The command counter plays no part in a repair's start (R146). -/
theorem State.withRepair_count (s : State) : s.count.withRepair = s.withRepair.count := by
  by_cases h : s.repairWaits
  · obtain ⟨c, i, rest, hc, hq, he, hb⟩ := h
    rw [State.withRepair_head hc hq he hb, State.withRepair_head (s := s.count) hc hq he hb]
    rfl
  · rw [State.withRepair_stays h, State.withRepair_stays (s := s.count) h]

/-- The command counter plays no part in a mismatch (R176). -/
theorem State.mismatch_count (hl : s.bindingLaw) {i : SlotIdx} (hc : (s.entry c).binding = .bound i) :
    s.count.mismatch i = (s.mismatch i).count := by
  rw [State.mismatch_eq hl hc, State.mismatch_eq (s := s.count) hl hc]
  rfl

/-- Settles O13: one refusal after another, each with the checks before it passed. -/
theorem openEditRefusalsInOrder : Obligations.OpenEditRefusalsInOrder := by
  refine ⟨fun c b s h => ⟨fun hl => ?_, fun hl => ⟨fun hb => ?_, fun hb => ?_⟩⟩,
    fun c i src s h hlaw hl hb ha hc hroom hi hcells hcrc => ?_⟩
  · exact exec_answered (run := openEdit c b) rfl h (openEdit_loading (s := s.count) hl b)
  · exact exec_answered (run := openEdit c b) rfl h (openEdit_badParam (s := s.count) hl (kindOfCode_none hb))
  · obtain ⟨kind, rfl⟩ := exists_kindCode hb
    refine ⟨fun hc => ?_, fun hc => ⟨fun hfull => ?_, fun hroom => ?_⟩⟩
    · exact exec_answered (run := openEdit c (kindCode kind)) rfl h (openEdit_inEdit (s := s.count) hl kind hc)
    · exact exec_answered (run := openEdit c (kindCode kind)) rfl h (openEdit_setFull (s := s.count) hl kind hc hfull)
    · have wrong (k : EditKind) (hk : s.kindFits c k ≠ true) :
          exec (.openEdit c (kindCode k)) s = .next (s.answered .openEdit .wrongState []) :=
        exec_answered (run := openEdit c (kindCode k)) rfl h (openEdit_wrongState (s := s.count) hl k hc hroom hk)
      have noSlot (k : EditKind) (hr : k ≠ .retire) (hk : s.kindFits c k = true) (hf : ∀ i, (s.slot i).state ≠ .free) :
          exec (.openEdit c (kindCode k)) s = .next (s.answered .openEdit .noSlot []) :=
        exec_answered (run := openEdit c (kindCode k)) rfl h
          ((openEdit_staged (s := s.count) hl hr hc hroom hk).trans (State.openStaged_noSlot (s := s.count) hf k))
      refine ⟨fun hk hj => ?_, fun hk hj => ?_, fun hk hj => ?_, fun hk hj => ?_, fun hk hj hf => ?_,
        fun j hj hs hk hf => ?_, fun j hj ha => ⟨fun hk hf => ?_, fun hk hf hcells => ?_⟩⟩
      · rw [hk]
        exact wrong .create fun hfit => hj.elim (State.kindFits_create.1 hfit)
      · rw [hk]
        exact wrong .replaceCopy fun hfit => (State.kindFits_replaceCopy.1 hfit).elim fun j hj' => hj j hj'.1 hj'.2
      · rw [hk]
        refine wrong .replaceEmpty fun hfit => ?_
        obtain ⟨j, hbj, hst⟩ := State.kindFits_replaceEmpty.1 hfit
        exact hst.elim (hj j hbj).1 (hj j hbj).2
      · rw [hk]
        exact wrong .retire fun hfit => State.kindFits_retire.1 hfit hj
      · rw [hk]
        exact noSlot .create (by decide) (State.kindFits_create.2 hj) hf
      · rw [hk]
        exact noSlot .replaceEmpty (by decide) (State.kindFits_replaceEmpty.2 ⟨j, hj, .inr hs⟩) hf
      · obtain hk | hk := hk <;> rw [hk]
        · exact noSlot .replaceCopy (by decide) (State.kindFits_replaceCopy.2 ⟨j, hj, ha⟩) hf
        · exact noSlot .replaceEmpty (by decide) (State.kindFits_replaceEmpty.2 ⟨j, hj, .inl ha⟩) hf
      · rw [hk]
        obtain ⟨i, hi⟩ := State.lowestFree_some hf
        refine exec_answered (run := openEdit c (kindCode .replaceCopy)) rfl h ?_
        rw [openEdit_staged (s := s.count) hl (by decide) hc hroom (State.kindFits_replaceCopy.2 ⟨j, hj, ha⟩),
          State.openStaged_copy (s := s.count) hi hj]
        exact if_pos hcells
  · refine exec_answered (run := openEdit c (kindCode .replaceCopy)) rfl h ?_
    have hi : s.count.lowestFree = some i := State.lowestFree_of hi
    rw [openEdit_staged (s := s.count) hl (by decide) hc hroom (State.kindFits_replaceCopy.2 ⟨src, hb, ha⟩),
      State.openStaged_copy hi hb]
    refine ((if_neg (Nat.not_lt.2 hcells)).trans (if_pos hcrc)).trans ?_
    rw [State.mismatch_count hlaw hb, State.withRepair_count, State.mismatch_eq hlaw hb]
    rfl

end

end Sys2Proof.Machine

namespace Sys2Proof.Machine

section
variable {s : State} {c : Channel}

/-! ### The checks that the content commands share (R56) -/

/-- A channel that no entry names is a content command's second check (R56). -/
theorem onStaged_notInEdit (hl : s.isLoading = false) (he : s.findEdit c = none) (run : State → SlotIdx → Answer) :
    onStaged c run s = .refuse s .notInEdit := by
  rw [onStaged, unlessLoading_running hl]
  simp only [he]

/-- An entry without a slot is a content command's third check (R56). -/
theorem onStaged_wrongState (hl : s.isLoading = false) {e : Entry} (he : s.findEdit c = some e) (hs : e.slot = none)
    (run : State → SlotIdx → Answer) : onStaged c run s = .refuse s .wrongState := by
  rw [onStaged, unlessLoading_running hl]
  simp only [he, hs]

/-- A content command's own part, on the staged slot (R56). -/
theorem onStaged_slot (hl : s.isLoading = false) {e : Entry} (he : s.findEdit c = some e) {i : SlotIdx}
    (hs : e.slot = some i) (run : State → SlotIdx → Answer) : onStaged c run s = run s i := by
  rw [onStaged, unlessLoading_running hl]
  simp only [he, hs]

/-! ### The items of a Set Fields (R57, R204) -/

/-- A code above 01h names neither value of a two-valued item. -/
theorem not_two_valued {b : Byte} (h : 1 < b.toNat) : b ≠ 0#8 ∧ b ≠ 1#8 := by
  constructor <;> rintro rfl <;> exact absurd h (by decide)

/-- A format code above 01h names no format (R204). -/
theorem formatOfCode_none {b : Byte} (h : 1 < b.toNat) : formatOfCode b = none := by
  simp [formatOfCode, not_two_valued h]

/-- An end mode code above 01h names no end mode (R204). -/
theorem endModeOfCode_none {b : Byte} (h : 1 < b.toNat) : endModeOfCode b = none := by
  simp [endModeOfCode, not_two_valued h]

/-- An action code above 01h names no action (R204). -/
theorem actionOfCode_none {b : Byte} (h : 1 < b.toNat) : actionOfCode b = none := by
  simp [actionOfCode, not_two_valued h]

/-- A presence mark above 01h is none (R204). -/
theorem boolOfCode_none {b : Byte} (h : 1 < b.toNat) : boolOfCode b = none := by
  simp [boolOfCode, not_two_valued h]

/-- A code names its format (R204). -/
theorem formatOfCode_formatCode (x : Format) : formatOfCode (formatCode x) = some x := by cases x <;> rfl

/-- A code names its end mode (R204). -/
theorem endModeOfCode_endModeCode (x : EndMode) : endModeOfCode (endModeCode x) = some x := by cases x <;> rfl

/-- A code names its action (R204). -/
theorem actionOfCode_actionCode (x : ExpiryAction) : actionOfCode (actionCode x) = some x := by cases x <;> rfl

/-- A presence mark is read as it was written (R204). -/
theorem boolOfCode_mark (x : Bool) : boolOfCode (if x then 1#8 else 0#8) = some x := by cases x <;> rfl

/-- A bad code, or a present due time of 0, is refused (R57). -/
theorem decodeFields_none {f : FieldBytes}
    (h : 1 < f.format.toNat ∨ 1 < f.endMode.toNat ∨ 1 < f.action.toNat ∨ 1 < f.limitsPresent.toNat ∨
      1 < f.duePresent.toNat ∨ (f.duePresent = 1#8 ∧ f.due = 0#32)) : decodeFields f = none := by
  cases hd : decodeFields f with
  | none => rfl
  | some v =>
    exfalso
    unfold decodeFields at hd
    split at hd
    case h_2 => cases hd
    case h_1 due hformat hmode haction hlimits hdue =>
      obtain h | h | h | h | h | ⟨hp, hz⟩ := h
      · exact absurd hformat (by simp [formatOfCode_none h])
      · exact absurd hmode (by simp [endModeOfCode_none h])
      · exact absurd haction (by simp [actionOfCode_none h])
      · exact absurd hlimits (by simp [boolOfCode_none h])
      · exact absurd hdue (by simp [boolOfCode_none h])
      · obtain rfl : due = true := by
          rw [hp] at hdue
          exact (Option.some.inj hdue).symm
        simp [hz] at hd

/-- Good codes, with a due time other than 0 where one is present, give the five items (R57). -/
theorem decodeFields_some {f : FieldBytes} {format : Format} {mode : EndMode} {action : ExpiryAction}
    {limits due : Bool} (hformat : f.format = formatCode format) (hmode : f.endMode = endModeCode mode)
    (haction : f.action = actionCode action)
    (hlimits : f.limitsPresent = if limits then 1#8 else 0#8) (hdue : f.duePresent = if due then 1#8 else 0#8)
    (hz : due = true → f.due ≠ 0#32) :
    decodeFields f = some { format, endMode := mode, action
                            limits := if limits then some { low := f.low, high := f.high } else none
                            due := if due then some f.due else none } := by
  simp only [decodeFields, hformat, hmode, haction, hlimits, hdue, formatOfCode_formatCode, endModeOfCode_endModeCode,
    actionOfCode_actionCode, boolOfCode_mark]
  exact if_neg (by simpa using hz)

/-! ### The label (R58) -/

/-- A label is refused for a byte outside 20h to 7Eh (R58). -/
theorem all_printable_eq_false {label : List Byte} :
    label.all printable = false ↔ ∃ b ∈ label, b < 0x20#8 ∨ 0x7E#8 < b := by
  simp only [List.all_eq_false, printable, Bool.and_eq_true, decide_eq_true_eq, not_and_or, BitVec.not_le]

/-! ### The point list (R59) -/

/-- The written positions hold the points (R59). -/
theorem overwrite_written {list points : List Point} {start j : Nat} (h : start ≤ list.length) (hj : start ≤ j)
    (hj' : j < start + points.length) : (overwrite list start points)[j]? = points[j - start]? := by
  have htake : (list.take start).length = start := List.length_take_of_le h
  rw [overwrite, List.getElem?_append_left (by rw [List.length_append, htake]; exact hj'),
    List.getElem?_append_right (by rw [htake]; exact hj), htake]

/-- Every other position keeps its point (R59). -/
theorem overwrite_kept {list points : List Point} {start j : Nat} (h : start ≤ list.length)
    (hj : j < start ∨ start + points.length ≤ j) : (overwrite list start points)[j]? = list[j]? := by
  have htake : (list.take start).length = start := List.length_take_of_le h
  have hfront : (list.take start ++ points).length = start + points.length := by rw [List.length_append, htake]
  obtain hj | hj := hj
  · rw [overwrite, List.getElem?_append_left (by omega), List.getElem?_append_left (by omega),
      List.getElem?_take_of_lt hj]
  · rw [overwrite, List.getElem?_append_right (by omega), hfront, List.getElem?_drop, Nat.add_sub_cancel' hj]

/-! ### The content commands (R56 to R60) -/

/-- Settles O14: each command's own check passes and the staged slot is written. -/
theorem contentCommandsWriteTheirItems : Obligations.ContentCommandsWriteTheirItems := by
  refine ⟨fun c e i s h hl he hs => ⟨fun f format mode action limits due h1 h2 h3 h4 h5 hz => ?_,
    fun label hlen hprint => ?_, fun n hn => ?_⟩, fun c e i start points s h hl he hs h1 h2 h3 h4 h5 => ?_⟩
  · refine exec_answered (run := setFields c f) rfl h ((onStaged_slot (s := s.count) hl he hs _).trans ?_)
    simp only [decodeFields_some h1 h2 h3 h4 h5 hz]
    rfl
  · refine exec_answered (run := setLabel c label) rfl h ((onStaged_slot (s := s.count) hl he hs _).trans (if_neg ?_))
    rw [all_printable_eq_false]
    rintro (hlong | ⟨b, hb, hlow | hhigh⟩)
    · omega
    · exact absurd (hprint b hb).1 (BitVec.not_le.2 hlow)
    · exact absurd (hprint b hb).2 (BitVec.not_le.2 hhigh)
  · exact exec_answered (run := trimPoints c n) rfl h
      ((onStaged_slot (s := s.count) hl he hs _).trans (if_neg (Nat.not_lt.2 hn)))
  · have hlen := overwrite_length points h3
    refine ⟨overwrite (s.slot i).content.points start.toNat points, fun j => overwrite_written h3,
      fun j => overwrite_kept h3, hlen, ?_⟩
    have hneed : (overwrite (s.slot i).content.points start.toNat points).length - (s.slot i).content.points.length =
        start.toNat + points.length - (s.slot i).content.points.length := by omega
    rw [hneed]
    refine exec_answered (run := putPoints c start points) rfl h ((onStaged_slot (s := s.count) hl he hs _).trans ?_)
    refine (if_neg ?_).trans (if_neg ?_)
    · show ¬ (points.length = 0 ∨ 12 < points.length ∨ (s.slot i).content.points.length < start.toNat ∨
        32 < start.toNat + points.length)
      omega
    · show ¬ s.freeCells < start.toNat + points.length - (s.slot i).content.points.length
      omega

/-- The content commands refuse alike where their shared checks do (R56). -/
theorem exec_content_refused (h : s.hears) {st : Status}
    (hr : ∀ run, onStaged c run s.count = .refuse s.count st) (f : FieldBytes) (label : List Byte) (start n : Byte)
    (points : List Point) :
    exec (.setFields c f) s = .next (s.answered .setFields st []) ∧
      exec (.setLabel c label) s = .next (s.answered .setLabel st []) ∧
      exec (.putPoints c start points) s = .next (s.answered .putPoints st []) ∧
      exec (.trimPoints c n) s = .next (s.answered .trimPoints st []) :=
  ⟨exec_answered (run := setFields c f) rfl h (hr _), exec_answered (run := setLabel c label) rfl h (hr _),
    exec_answered (run := putPoints c start points) rfl h (hr _), exec_answered (run := trimPoints c n) rfl h (hr _)⟩

/-- Settles O15: the shared checks, then each command's own. -/
theorem contentCommandRefusalsInOrder : Obligations.ContentCommandRefusalsInOrder := by
  intro c f label start n points s h
  have shared {st : Status} (hr : ∀ run, onStaged c run s.count = .refuse s.count st) :=
    exec_content_refused h hr f label start n points
  refine ⟨fun hl => shared fun _ => unlessLoading_loading (s := s.count) hl _,
    fun hl => ⟨fun he => shared (onStaged_notInEdit (s := s.count) hl he),
      fun e he => ⟨fun hs => shared (onStaged_wrongState (s := s.count) hl he hs), fun i hs => ?_⟩⟩⟩
  have own (run : State → SlotIdx → Answer) : onStaged c run s.count = run s.count i :=
    onStaged_slot (s := s.count) hl he hs run
  refine ⟨fun hbad => ?_, fun hbad => ?_, fun hbad => ?_, fun hbad => ?_, fun h1 h2 h3 h4 hfull => ?_⟩
  · refine exec_answered (run := setFields c f) rfl h ((own _).trans ?_)
    simp only [decodeFields_none hbad]
    rfl
  · exact exec_answered (run := setLabel c label) rfl h
      ((own _).trans (if_pos (hbad.imp_right all_printable_eq_false.2)))
  · exact exec_answered (run := trimPoints c n) rfl h ((own _).trans (if_pos hbad))
  · exact exec_answered (run := putPoints c start points) rfl h
      ((own _).trans (if_pos (hbad.imp_left List.length_eq_zero_iff.2)))
  · refine exec_answered (run := putPoints c start points) rfl h ((own _).trans ((if_neg ?_).trans (if_pos ?_)))
    · have hpos := List.length_pos_iff.2 h1
      show ¬ (points.length = 0 ∨ 12 < points.length ∨ (s.slot i).content.points.length < start.toNat ∨
        32 < start.toNat + points.length)
      omega
    · show s.freeCells < start.toNat + points.length - (s.slot i).content.points.length
      omega

end

end Sys2Proof.Machine

namespace Sys2Proof.Machine

section
variable {s : State} {c : Channel}

/-! ### Removing entries (R61, R62) -/

/-- An unpinned slot that is released enters FREE with its cells returned (R11). -/
theorem State.release_unpinned {i : SlotIdx} (h : (s.slot i).pins = 0) :
    s.release i = { s.setSlot i Slot.blank with freeCells := s.freeCells + (s.slot i).content.points.length } := by
  rw [State.release_eq, if_pos h, Slot.released, if_pos h]

/-- A discarded entry leaves the settings alone (R11). -/
theorem State.discard_control (s : State) (e : Entry) : (s.discard e).control = s.control := by
  rw [s.discard_eq e]

/-- The entries after one is removed: the later ones move down (R61). -/
theorem eraseP_entry {before after : List Entry} {e : Entry} (he : e.channel = c) (hb : ∀ d ∈ before, d.channel ≠ c) :
    ((before ++ e :: after).eraseP fun d => d.channel == c) = before ++ after := by
  rw [List.eraseP_append_right _ (by simpa using hb), List.eraseP_cons_of_pos (by simpa using he)]

/-- Drop Edit refuses a channel that no entry names (R61). -/
theorem dropEdit_notInEdit (hl : s.isLoading = false) (hc : ∀ e ∈ s.edits, e.channel ≠ c) :
    dropEdit c s = .refuse s .notInEdit := by
  rw [dropEdit, unlessLoading_running hl]
  simp only [(State.findEdit_none_iff s c).2 hc]

/-- Drop Edit removes and discards the channel's entry (R61). -/
theorem dropEdit_entry (hl : s.isLoading = false) {before after : List Entry} {e : Entry}
    (hes : s.edits = before ++ e :: after) (he : e.channel = c) (hb : ∀ d ∈ before, d.channel ≠ c) :
    dropEdit c s = .ok
      { s.discard e with
        edits := before ++ after, lease := if before ++ after = [] then .stopped else s.freshLease } [] := by
  rw [dropEdit, unlessLoading_running hl]
  simp only [State.findEdit_first hes he hb, hes, eraseP_entry he hb, List.isEmpty_iff]
  by_cases hlast : before ++ after = []
  · rw [if_pos hlast, if_pos hlast]
  · rw [if_neg hlast, if_neg hlast, State.restartLease, State.freshLease, State.discard_control]

/-- Abandon refuses an EMPTY set (R62). -/
theorem abandon_noEdit (hl : s.isLoading = false) (he : s.edits = []) : abandon s = .refuse s .noEdit := by
  rw [abandon, unlessLoading_running hl, he]
  rfl

/-- Abandon empties a set that is not EMPTY (R62). -/
theorem abandon_entries (hl : s.isLoading = false) (he : s.edits ≠ []) : abandon s = .ok s.emptyEdits [] := by
  rw [abandon, unlessLoading_running hl]
  exact if_neg (by simpa using he)

/-- An emptied set changes the slots and the pool, the set and its timer alone (R62, R65). -/
theorem State.emptyEdits_frame (s : State) :
    s.emptyEdits = { s with
      slots := s.emptyEdits.slots, freeCells := s.emptyEdits.freeCells, edits := [], lease := .stopped } := by
  unfold State.emptyEdits
  rw [State.discardAll_frame]

/-- Some entry has the slot. -/
theorem mem_namedSlots {es : List Entry} {i : SlotIdx} :
    i ∈ es.filterMap Entry.slot ↔ ∃ e ∈ es, e.slot = some i := List.mem_filterMap

/-- An emptied set leaves its staged slots FREE, where none is pinned (R11, R62). -/
theorem State.slot_emptyEdits (hn : (s.edits.filterMap Entry.slot).Nodup)
    (hp : ∀ e ∈ s.edits, ∀ i ∈ e.slot, (s.slot i).pins = 0) (i : SlotIdx) [Decidable (∃ e ∈ s.edits, e.slot = some i)] :
    s.emptyEdits.slot i = if ∃ e ∈ s.edits, e.slot = some i then Slot.blank else s.slot i := by
  obtain ⟨-, -, hslots⟩ := State.discardAll_eq s.edits s hn
  refine (hslots i).trans ?_
  simp only [mem_namedSlots]
  by_cases h : ∃ e ∈ s.edits, e.slot = some i
  · obtain ⟨e, he, hi⟩ := h
    rw [if_pos ⟨e, he, hi⟩, if_pos ⟨e, he, hi⟩, Slot.released, if_pos (hp e he i hi)]
  · rw [if_neg h, if_neg h]

/-- An emptied set returns its staged slots' cells, where none is pinned (R11, R62). -/
theorem State.freeCells_emptyEdits (hn : (s.edits.filterMap Entry.slot).Nodup)
    (hp : ∀ e ∈ s.edits, ∀ i ∈ e.slot, (s.slot i).pins = 0) :
    s.emptyEdits.freeCells = s.freeCells +
      ((s.edits.filterMap Entry.slot).map fun i => (s.slot i).content.points.length).sum := by
  have hback : (s.edits.filterMap Entry.slot).map s.cellsBack =
      (s.edits.filterMap Entry.slot).map fun i => (s.slot i).content.points.length :=
    List.map_congr_left fun i hi => by
      obtain ⟨e, he, hei⟩ := mem_namedSlots.1 hi
      exact if_pos (hp e he i hei)
  rw [← hback]
  exact State.discardAll_freeCells s.edits s hn

/-- Settles O16: the entry's slot is released, or every entry's. -/
theorem dropEditAndAbandonDiscard : Obligations.DropEditAndAbandonDiscard := by
  refine ⟨fun c s h hl => ⟨fun before after e hes he hb => ⟨fun hs => ?_, fun i hs hp => ?_⟩, fun hc => ?_⟩,
    fun c s h hl => ⟨?_, ?_⟩, fun s h hl => ⟨fun he => ?_, fun he hn hp => ?_⟩⟩
  · refine exec_answered (run := dropEdit c) rfl h ((dropEdit_entry (s := s.count) hl hes he hb).trans ?_)
    rw [State.discard, hs]
    rfl
  · refine exec_answered (run := dropEdit c) rfl h ((dropEdit_entry (s := s.count) hl hes he hb).trans ?_)
    rw [State.discard, hs]
    simp only [State.release_unpinned (s := s.count) hp]
    rfl
  · exact exec_answered (run := dropEdit c) rfl h (dropEdit_notInEdit (s := s.count) hl hc)
  · exact exec_answered (run := dropEdit c) rfl h (unlessLoading_loading (s := s.count) hl _)
  · exact exec_answered (run := abandon) rfl h (unlessLoading_loading (s := s.count) hl _)
  · exact exec_answered (run := abandon) rfl h (abandon_noEdit (s := s.count) hl he)
  · let x := s.count.emptyEdits
    refine ⟨{ s with slots := x.slots, freeCells := x.freeCells, edits := [], lease := .stopped }, ?_,
      fun i => State.slot_emptyEdits (s := s.count) hn hp i, State.freeCells_emptyEdits (s := s.count) hn hp, rfl⟩
    refine exec_answered (run := abandon) rfl h ((abandon_entries (s := s.count) hl he).trans ?_)
    rw [State.emptyEdits_frame s.count]
    rfl

/-! ### Read Edit Set (R68, R204) -/

/-- The lease timer takes three bytes (R204; log entry 16). -/
theorem leaseBytes_length (l : LeaseTimer) : (leaseBytes l).length = 3 := by cases l <;> rfl

/-- The items of a list of entries take five bytes each (R204). -/
theorem entriesBytes_length (l : List (Entry × Nat)) :
    (l.flatMap fun p => s.entryBytes p.1 p.2).length = 5 * l.length := by
  induction l with
  | nil => rfl
  | cons p l ih =>
    rw [List.flatMap_cons, List.length_append, ih, List.length_cons]
    show 5 + _ = _
    omega

/-- The items of an entry stand five bytes after those of the one before (R204). -/
theorem entriesBytes_at {l : List (Entry × Nat)} {j : Nat} {e : Entry} {n : Nat} (h : l[j]? = some (e, n)) :
    ((l.flatMap fun p => s.entryBytes p.1 p.2).drop (5 * j)).take 5 = s.entryBytes e n := by
  induction l generalizing j with
  | nil => simp at h
  | cons p l ih =>
    rw [List.flatMap_cons]
    have hlen : (s.entryBytes p.1 p.2).length = 5 := rfl
    cases j with
    | zero =>
      obtain rfl : p = (e, n) := by simpa using h
      exact List.take_left' hlen
    | succ j =>
      rw [show 5 * (j + 1) = (s.entryBytes p.1 p.2).length + 5 * j by rw [hlen]; omega, List.drop_length_add_append]
      exact ih (by simpa using h)

/-- The entries that Read Edit Set reports, with their indexes (R68). -/
def State.reported (s : State) (start : Byte) : List (Entry × Nat) :=
  ((s.edits.drop start.toNat).take 8).zipIdx start.toNat

/-- The reported entries are those from the start index on (R68). -/
theorem State.reported_getElem? (s : State) (start : Byte) {j : Nat} {e : Entry} (hj : j < 8)
    (he : s.edits[start.toNat + j]? = some e) : (s.reported start)[j]? = some (e, start.toNat + j) := by
  rw [State.reported, List.getElem?_zipIdx, List.getElem?_take_of_lt hj, List.getElem?_drop, he]
  rfl

/-- At most eight entries are reported (R68). -/
theorem State.reported_length (s : State) (start : Byte) :
    (s.reported start).length = min 8 (s.edits.length - start.toNat) := by
  rw [State.reported, List.length_zipIdx, List.length_take, List.length_drop]

/-- The payload of Read Edit Set (R68). -/
def State.editSetBytes (s : State) (start : Byte) : List Byte :=
  [byteOf s.edits.length] ++ leaseBytes s.lease ++ (s.reported start).flatMap fun p => s.entryBytes p.1 p.2

/-- Settles O17: the payload's head, its length, and each entry's place in it. -/
theorem readEditSetReportsTheSet : Obligations.ReadEditSetReportsTheSet := by
  intro start s h
  refine ⟨fun hstart => exec_answered (run := readEditSet start) rfl h (if_pos hstart),
    fun hstart _ => ⟨s.editSetBytes start,
      exec_answered (run := readEditSet start) rfl h (if_neg (Nat.not_lt.2 hstart)), rfl, fun hl => ?_, fun hl => ?_,
      fun l k hl => ?_, ?_, fun j e hj he => ?_⟩⟩
  · rw [State.editSetBytes, hl]; rfl
  · rw [State.editSetBytes, hl]; rfl
  · rw [State.editSetBytes, hl]; rfl
  · simp only [State.editSetBytes, List.length_append, leaseBytes_length, entriesBytes_length, State.reported_length,
      List.length_singleton]
  · have hhead : ([byteOf s.edits.length] ++ leaseBytes s.lease).length = 4 := by
      rw [List.length_append, leaseBytes_length, List.length_singleton]
    rw [State.editSetBytes, ← hhead, List.drop_length_add_append, entriesBytes_at (s.reported_getElem? start hj he)]
    obtain ⟨ch, kind, slot⟩ := e
    cases kind <;> cases slot <;> rfl

end

end Sys2Proof.Machine

namespace Sys2Proof.Machine

section
variable {s : State}

/-! ### The lapse of the lease (R65) -/

/-- The next seconds tick lapses the lease (R65). -/
def State.lapses (s : State) : Prop := ∃ l k, s.lease = .counting l k ∧ k + 1 = l.toNat

/-- A lapse is due exactly where the count is one below the lease. -/
theorem State.lapseDue_iff (s : State) : s.lapseDue = true ↔ s.lapses := by
  unfold State.lapseDue State.lapses
  split
  case h_1 l k hl => simp [hl]
  case h_2 hl => simp [hl]
  case h_3 hl => simp [hl]

/-- The entries name the STAGED slots (R9). -/
theorem State.editLaw.named (h : s.editLaw) (i : SlotIdx) :
    i ∈ s.edits.filterMap Entry.slot ↔ (s.slot i).state = .staged := by
  have hcount := h.1 i
  rw [mem_namedSlots]
  constructor
  · rintro ⟨e, he, hi⟩
    have hpos := State.editCount_pos he hi
    by_contra hs
    rw [if_neg hs] at hcount
    omega
  · intro hs
    rw [if_pos hs] at hcount
    obtain ⟨e, he, hi⟩ := List.countP_pos_iff.1 (hcount ▸ Nat.one_pos : 0 < s.editCount i)
    exact ⟨e, he, by simpa using hi⟩

/-- No slot is named twice (R9). -/
theorem State.editLaw.nodup (h : s.editLaw) : (s.edits.filterMap Entry.slot).Nodup := by
  refine List.nodup_iff_count_le_one.2 fun i => ?_
  have hcount : (s.edits.filterMap Entry.slot).count i = s.editCount i := by
    rw [List.count, List.countP_filterMap, State.editCount]
    refine List.countP_congr fun e _ => ?_
    cases e.slot <;> simp
  rw [hcount, h.1 i]
  split <;> omega

/-- A lapse discards the entries: their slots are released, and no other slot changes (R65, R11). -/
theorem State.editLaw.slot_emptyEdits (h : s.editLaw) (i : SlotIdx) :
    s.emptyEdits.slot i = if (s.slot i).state = .staged then (s.slot i).released else s.slot i := by
  obtain ⟨-, -, hslots⟩ := State.discardAll_eq s.edits s h.nodup
  refine (hslots i).trans ?_
  by_cases hs : (s.slot i).state = .staged
  · rw [if_pos ((h.named i).2 hs), if_pos hs]
  · rw [if_neg (mt (h.named i).1 hs), if_neg hs]

/-- A lapse moves cells to the pool and loses none (R17, R20). -/
theorem State.editLaw.cells_emptyEdits (h : s.editLaw) :
    s.emptyEdits.freeCells + s.emptyEdits.cellsUsed = s.freeCells + s.cellsUsed := by
  obtain ⟨-, hcells, -⟩ := State.discardAll_eq s.edits s h.nodup
  exact hcells

/-- A released slot is FREE or DRAINING (R11). -/
theorem Slot.released_state (sl : Slot) : sl.released.state = .free ∨ sl.released.state = .draining := by
  unfold Slot.released
  split
  case isTrue => exact .inl rfl
  case isFalse => exact .inr rfl

/-! ### The lease timer's part of a seconds tick (R65) -/

/-- The lease timer changes the edit set, its timer and its slots, the pool and the causes alone (R65). -/
theorem State.leaseTick_frame (s : State) :
    s.leaseTick = { s with
      edits := s.leaseTick.edits, lease := s.leaseTick.lease, slots := s.leaseTick.slots
      freeCells := s.leaseTick.freeCells, causes := s.leaseTick.causes } := by
  by_cases h : s.lapses
  · obtain ⟨l, k, hl, hk⟩ := h
    rw [State.leaseTick_lapse hl hk, State.emptyEdits_frame]
    rfl
  · obtain ⟨l, hl, -⟩ := State.leaseTick_counts (s := s) fun l k hl hk => h ⟨l, k, hl, hk⟩
    rw [hl]

/-- The lease timer leaves a slot that no lapse discards (R65). -/
theorem State.slot_leaseTick (hlaw : s.lapses → s.editLaw) {i : SlotIdx}
    (h : ¬ (s.lapses ∧ (s.slot i).state = .staged)) : s.leaseTick.slot i = s.slot i := by
  by_cases hlapse : s.lapses
  · obtain ⟨l, k, hl, hk⟩ := id hlapse
    rw [State.leaseTick_lapse hl hk]
    exact ((hlaw hlapse).slot_emptyEdits i).trans (if_neg fun hs => h ⟨hlapse, hs⟩)
  · obtain ⟨l, hl, -⟩ := State.leaseTick_counts (s := s) fun l k hl hk => hlapse ⟨l, k, hl, hk⟩
    rw [hl]
    rfl

/-- A lapse releases the STAGED slots (R65, R11). -/
theorem State.slot_leaseTick_staged (hlaw : s.editLaw) (hlapse : s.lapses) {i : SlotIdx}
    (hs : (s.slot i).state = .staged) : s.leaseTick.slot i = (s.slot i).released := by
  obtain ⟨l, k, hl, hk⟩ := hlapse
  rw [State.leaseTick_lapse hl hk]
  exact (hlaw.slot_emptyEdits i).trans (if_pos hs)

/-- The lease timer's part leaves the installed slots what they are (R65). -/
theorem State.installed_leaseTick (hlaw : s.lapses → s.editLaw) (i : SlotIdx) :
    (s.leaseTick.slot i).state.installed = (s.slot i).state.installed := by
  by_cases h : s.lapses ∧ (s.slot i).state = .staged
  · obtain ⟨hlapse, hs⟩ := h
    rw [State.slot_leaseTick_staged (hlaw hlapse) hlapse hs, hs]
    obtain hr | hr := (s.slot i).released_state <;> rw [hr] <;> rfl
  · rw [State.slot_leaseTick hlaw h]

/-- A slot that falls due is ACTIVE or SUSPECT (R116). -/
theorem Slot.installed_of_falls {now : Word} {sl : Slot} (h : sl.falls now = true) : sl.state.installed = true := by
  obtain ⟨hs | hs, -⟩ := (Slot.falls_iff now sl).1 h <;> rw [hs] <;> rfl

/-- The lease timer's part leaves alone which slots fall due (R65, R116). -/
theorem State.falls_leaseTick (hlaw : s.lapses → s.editLaw) (now : Word) (i : SlotIdx) :
    (s.leaseTick.slot i).falls now = true ↔ (s.slot i).falls now = true := by
  by_cases h : s.lapses ∧ (s.slot i).state = .staged
  · have hnot : (s.slot i).state.installed ≠ true := by rw [h.2]; decide
    exact iff_of_false (fun hf => hnot ((State.installed_leaseTick hlaw i).symm.trans (Slot.installed_of_falls hf)))
      fun hf => hnot (Slot.installed_of_falls hf)
  · rw [State.slot_leaseTick hlaw h]

/-! ### A seconds tick that is no silence (R113, R143) -/

/-- The state as a seconds tick's lease timer finds it: part time advanced, the millisecond count 0 (R113). -/
def State.nextSecondBegun (s : State) : State := { s with partTime := nextSecond s.partTime, msCount := 0 }

/-- The state as a seconds tick's sweep finds it (R113). -/
def State.leased (s : State) : State := s.nextSecondBegun.leaseTick

/-- The state as a seconds tick's scrub monitor finds it, no transfer being silent (R113, R143; log entry 7). -/
def State.swept (s : State) : State :=
  { s with
    partTime := nextSecond s.partTime, msCount := 0, edits := s.leased.edits, lease := s.leased.lease
    slots := s.leased.sweep.slots, freeCells := s.leased.freeCells, reasons := s.leased.sweep.reasons
    causes := s.leased.causes, port := s.port.map fun p => { p with ticks := p.ticks + 1 } }

/-- The time base's part of a seconds tick (R113). -/
theorem State.timeTick_second (h : s.msCount = 999) : s.timeTick = { s.swept with port := s.port } := by
  have hsweep : s.timeTick = s.leased.sweep := if_pos (by simp [State.secondDue, h])
  have hframe (sl : Vector Slot 128) (r : Vector Reasons 256) :
      { s.leased with slots := sl, reasons := r } =
        { s.nextSecondBegun with
          edits := s.leased.edits, lease := s.leased.lease, slots := sl, freeCells := s.leased.freeCells, reasons := r
          causes := s.leased.causes } := by
    rw [State.leased, State.leaseTick_frame]
  exact hsweep.trans (hframe s.leased.sweep.slots s.leased.sweep.reasons)

/-- A seconds tick that is no silence is the time base's part, then the scrub monitor's (R113, R174). -/
theorem State.tick_second (hh : s.held = false) (h : s.msCount = 999) (hp : ∀ p ∈ s.port, p.ticks < 24) (took : Bool) :
    s.tick took = s.swept.scrubTick := by
  rw [State.tick, State.awake_running hh, State.timeTick_second h,
    State.portTick_quiet (s := { s.swept with port := s.port }) hp]
  rfl

/-- A lapse leaves the set EMPTY and its timer STOPPED, and latches LEASE_LAPSED (R65). -/
theorem State.leased_of_lapse (h : s.lapses) :
    s.leased.edits = [] ∧ s.leased.lease = .stopped ∧ s.leased.causes = s.causes ||| leaseLapsedBit := by
  obtain ⟨l, k, hl, hk⟩ := h
  rw [State.leased, State.leaseTick_lapse (s := s.nextSecondBegun) hl hk, State.emptyEdits_frame]
  exact ⟨rfl, rfl, rfl⟩

/-- Elsewhere the lease timer alone counts, where it is COUNTING (R65). -/
theorem State.leased_of_no_lapse (h : ¬ s.lapses) :
    ∃ l, s.leased = { s.nextSecondBegun with lease := l } ∧
      (∀ l' k, s.lease = .counting l' k → l = .counting l' (k + 1)) ∧ ((∀ l' k, s.lease ≠ .counting l' k) → l = s.lease) :=
  State.leaseTick_counts (s := s.nextSecondBegun) fun l k hl hk => h ⟨l, k, hl, hk⟩

/-- Part time as the sweep finds it (R113). -/
theorem State.leased_partTime (s : State) : s.leased.partTime = nextSecond s.partTime := by
  rw [State.leased, State.leaseTick_frame]
  rfl

/-- The map entries as the sweep finds them (R65). -/
theorem State.leased_entry (s : State) (c : Channel) : s.leased.entry c = s.entry c := by
  rw [State.leased, State.leaseTick_frame]
  rfl

/-- The reasons as the sweep finds them (R65). -/
theorem State.leased_reasonsOf (s : State) (c : Channel) : s.leased.reasonsOf c = s.reasonsOf c := by
  rw [State.leased, State.leaseTick_frame]
  rfl

/-- A slot after a seconds tick's sweep (R116). -/
theorem State.slot_swept (s : State) (i : SlotIdx) :
    s.swept.slot i =
      if (s.leased.slot i).falls (nextSecond s.partTime) then { s.leased.slot i with expired := true }
      else s.leased.slot i := by
  rw [← s.leased_partTime]
  exact State.sweep_slot s.leased i

/-- The state and the content of a slot after a seconds tick's sweep (R116). -/
theorem State.slot_swept_state (s : State) (i : SlotIdx) :
    (s.swept.slot i).state = (s.leased.slot i).state ∧ (s.swept.slot i).content = (s.leased.slot i).content := by
  rw [State.slot_swept]
  split <;> exact ⟨rfl, rfl⟩

section
variable (hlaw : s.lapses → s.editLaw) {i : SlotIdx}
include hlaw

/-- The slots that fall due are those that did as the tick began (R65, R116). -/
theorem State.falls_leased (now : Word) (i : SlotIdx) :
    (s.leased.slot i).falls now = true ↔ (s.slot i).falls now = true :=
  State.falls_leaseTick (s := s.nextSecondBegun) hlaw now i

/-- The installed slots are those that were as the tick began (R65). -/
theorem State.installed_leased (i : SlotIdx) : (s.leased.slot i).state.installed = (s.slot i).state.installed :=
  State.installed_leaseTick (s := s.nextSecondBegun) hlaw i

/-- A slot that falls due is flagged (R116). -/
theorem State.slot_swept_falls (hf : (s.slot i).falls (nextSecond s.partTime) = true) :
    s.swept.slot i = { s.slot i with expired := true } := by
  have hkept : s.leased.slot i = s.slot i :=
    State.slot_leaseTick (s := s.nextSecondBegun) hlaw fun ⟨_, hs⟩ => by
      have hin := Slot.installed_of_falls hf
      rw [show (s.slot i).state = .staged from hs] at hin
      cases hin
  rw [State.slot_swept, hkept, if_pos hf]

/-- A slot that neither falls due nor is discarded is left (R65, R116). -/
theorem State.slot_swept_kept (hf : ¬ (s.slot i).falls (nextSecond s.partTime) = true)
    (hs : ¬ (s.lapses ∧ (s.slot i).state = .staged)) : s.swept.slot i = s.slot i := by
  have hkept : s.leased.slot i = s.slot i := State.slot_leaseTick (s := s.nextSecondBegun) hlaw hs
  rw [State.slot_swept, hkept, if_neg hf]

/-- A staged slot that a lapse discards is released (R65, R11). -/
theorem State.slot_swept_staged (hlapse : s.lapses) (hs : (s.slot i).state = .staged) :
    s.swept.slot i = (s.slot i).released := by
  have hrel : s.leased.slot i = (s.slot i).released :=
    State.slot_leaseTick_staged (s := s.nextSecondBegun) (hlaw hlapse) hlapse hs
  have hnot : ¬ (s.slot i).falls (nextSecond s.partTime) = true := fun hf => by
    have hin := Slot.installed_of_falls hf
    rw [hs] at hin
    cases hin
  rw [State.slot_swept, if_neg (mt (State.falls_leased hlaw _ i).1 hnot), hrel]

/-- EXPIRED is raised for the channel bound to a slot that falls due (R116). -/
theorem State.reasonsOf_swept_falls {c : Channel} (hb : (s.entry c).binding = .bound i)
    (hf : (s.slot i).falls (nextSecond s.partTime) = true) : s.swept.reasonsOf c = s.reasonsOf c ||| expiredBit := by
  refine (State.sweep_reasons_bound (s := s.leased) (i := i) (by rw [State.leased_entry, hb])).trans ?_
  rw [State.leased_partTime, if_pos ((State.falls_leased hlaw _ i).2 hf), State.leased_reasonsOf]

/-- No other channel's reasons change (R116). -/
theorem State.reasonsOf_swept_kept {c : Channel}
    (h : ∀ i, (s.entry c).binding = .bound i → ¬ (s.slot i).falls (nextSecond s.partTime) = true) :
    s.swept.reasonsOf c = s.reasonsOf c := by
  by_cases hb : ∃ i, (s.entry c).binding = .bound i
  · obtain ⟨i, hb⟩ := hb
    refine (State.sweep_reasons_bound (s := s.leased) (i := i) (by rw [State.leased_entry, hb])).trans ?_
    rw [State.leased_partTime, if_neg (mt (State.falls_leased hlaw _ i).1 (h i hb)), State.leased_reasonsOf]
  · refine (State.sweep_reasons_unbound (s := s.leased) fun i => ?_).trans (s.leased_reasonsOf c)
    rw [State.leased_entry]
    exact fun h => hb ⟨i, h⟩

/-- A seconds tick keeps the binding law (R1). -/
theorem State.bindingLaw_swept (hl : s.bindingLaw) : s.swept.bindingLaw := fun i => by
  rw [(s.slot_swept_state i).1, State.installed_leased hlaw i]
  exact hl i

/-- A lapse at a seconds tick moves cells to the pool and loses none (R17, R20). -/
theorem State.cells_swept (hlapse : s.lapses) : s.swept.freeCells + s.swept.cellsUsed = s.freeCells + s.cellsUsed := by
  have hcells : s.leased.freeCells + s.leased.cellsUsed = s.freeCells + s.cellsUsed := by
    obtain ⟨l, k, hl, hk⟩ := id hlapse
    rw [State.leased, State.leaseTick_lapse (s := s.nextSecondBegun) hl hk]
    exact State.editLaw.cells_emptyEdits (s := s.nextSecondBegun) (hlaw hlapse)
  rw [State.cellsUsed_congr (s := s.leased) fun i => by rw [(s.slot_swept_state i).2]]
  exact hcells

end

/-! ### The scrub monitor's part of a tick (R174 to R176) -/

/-- A step expiry whose content check passes moves the position alone (R174, R175). -/
theorem State.scrubTick_sound (hz : s.control.step ≠ 0#8) (hn : s.scrubCount + 1 = s.control.step.toNat) {d : Fin 128}
    (ha : (s.slot (s.scrubPos + d)).state = .active) (hb : ∀ e < d, (s.slot (s.scrubPos + e)).state ≠ .active)
    (hcrc : contentCrc (s.slot (s.scrubPos + d)).content = (s.slot (s.scrubPos + d)).content.crc) :
    s.scrubTick = { s with scrubCount := 0, scrubPos := s.scrubPos + d + 1 } := by
  rw [State.scrubTick_step hz hn]
  exact (State.scrubCheck_first (s := { s with scrubCount := 0 }) ha hb).1 hcrc

/-- A step expiry that finds a mismatch has its four effects, and a repair may start (R146, R174, R176). -/
theorem State.scrubTick_mismatch (hz : s.control.step ≠ 0#8) (hn : s.scrubCount + 1 = s.control.step.toNat) {d : Fin 128}
    (ha : (s.slot (s.scrubPos + d)).state = .active) (hb : ∀ e < d, (s.slot (s.scrubPos + e)).state ≠ .active)
    (hcrc : contentCrc (s.slot (s.scrubPos + d)).content ≠ (s.slot (s.scrubPos + d)).content.crc) (hl : s.bindingLaw)
    {c : Channel} (hc : (s.entry c).binding = .bound (s.scrubPos + d)) :
    s.scrubTick = State.withRepair
      { (s.setSlot (s.scrubPos + d) { s.slot (s.scrubPos + d) with state := .suspect }).setReasons c
          (s.reasonsOf c ||| suspectBit) with
        scrubCount := 0, scrubPos := s.scrubPos + d + 1
        mismatches := if s.mismatches < 255 then s.mismatches + 1 else 255
        repairQueue :=
          if c ∈ s.repairQueue ∨ 8 ≤ s.repairQueue.length then s.repairQueue else s.repairQueue ++ [c] } := by
  rw [State.scrubTick_step hz hn, (State.scrubCheck_first (s := { s with scrubCount := 0 }) ha hb).2 hcrc,
    State.startRepair_eq]
  exact congrArg State.withRepair
    (State.mismatch_eq (s := { s with scrubCount := 0, scrubPos := s.scrubPos + d + 1 }) hl hc)

/-- Settles O31: the tick is the time base's part and the scrub monitor's, each with its cases. -/
theorem secondsTickAdvancesPartTime : Obligations.SecondsTickAdvancesPartTime := by
  intro took s hh hms hp lapses hlaw now due
  have hlaw : s.lapses → s.editLaw := hlaw
  have hdue (i : SlotIdx) : due i ↔ (s.slot i).falls (nextSecond s.partTime) = true := (Slot.falls_iff _ _).symm
  have htick := State.tick_second hh hms hp took
  have hsecond : s.secondDue = true := by simp [State.secondDue, hms]
  have next {b : Bool} (hb : b = true) :
      (Host.Outcome.next (if b then s.tick took else s) : Host.Outcome State Fault Refusal) =
        .next s.swept.scrubTick := by
    rw [if_pos hb, htick]
  refine ⟨s.swept, s.swept.scrubTick, next hsecond, congrArg Host.Outcome.next htick,
    fun hl => next (by rw [hsecond, (State.lapseDue_iff s).2 hl]; rfl), rfl, fun hl => ?_,
    fun hl => ?_,
    fun i hd => State.slot_swept_falls hlaw ((hdue i).1 hd),
    fun i hd => State.slot_swept_kept hlaw (mt (hdue i).2 hd),
    fun c i hb hd => State.reasonsOf_swept_falls hlaw hb ((hdue i).1 hd),
    fun c h => State.reasonsOf_swept_kept hlaw fun i hb => mt (hdue i).2 (h i hb), fun hz => ?_, fun hz hn => ?_,
    fun hz hn => ⟨next ?_, fun hno => ?_, fun d => ?_⟩⟩
  · obtain ⟨l, hleased, hcounts, hrests⟩ := State.leased_of_no_lapse hl
    simp only [State.swept, hleased]
    exact ⟨rfl, rfl, rfl, hcounts, hrests⟩
  · obtain ⟨hedits, hlease, hcauses⟩ := State.leased_of_lapse hl
    exact ⟨hedits, hlease, hcauses, State.cells_swept hlaw hl, fun i => State.slot_swept_staged hlaw hl⟩
  · rw [State.scrubTick_after (s := s) (t := s.swept) rfl rfl (.inl hz), if_pos hz]
  · rw [State.scrubTick_after (s := s) (t := s.swept) rfl rfl (.inr hn), if_neg hz]
  · simp [State.stepDue, hz, hn]
  · rw [State.scrubTick_step (s := s.swept) hz hn]
    exact State.scrubCheck_none hno
  · intro i ha hb
    exact ⟨fun hcrc => State.scrubTick_sound (s := s.swept) hz hn ha hb hcrc,
      fun hcrc hl c hc => State.scrubTick_mismatch (s := s.swept) hz hn ha hb hcrc (State.bindingLaw_swept hlaw hl) hc⟩

end

end Sys2Proof.Machine

namespace Sys2Proof.Machine

section
variable {s : State}

/-! ### What validation checks (R71 to R73) -/

/-- A list increases where each value is below the next (R72). -/
theorem increasing_iff_isChain (l : List Int) : increasing l = true ↔ l.IsChain (· < ·) := by
  induction l with
  | nil => simp [increasing]
  | cons a l ih =>
    cases l with
    | nil => simp [increasing]
    | cons b l => rw [increasing, Bool.and_eq_true, decide_eq_true_iff, ih, List.isChain_cons_cons]

/-- A content is ordered where each point's x, read under the format, is below that of the next point (R72). -/
theorem contentOrdered_iff (c : Content) :
    contentOrdered c = true ↔ ∀ (j : Nat) (p q : Point), c.points[j]? = some p → c.points[j + 1]? = some q →
      readX c.format p.x < readX c.format q.x := by
  rw [contentOrdered, increasing_iff_isChain, List.isChain_iff_getElem]
  constructor
  · intro h j p q hp hq
    obtain ⟨hj, rfl⟩ := List.getElem?_eq_some_iff.1 hp
    obtain ⟨hj', rfl⟩ := List.getElem?_eq_some_iff.1 hq
    have hlt := h j (by simpa using hj')
    rwa [List.getElem_map, List.getElem_map] at hlt
  · intro h j hj
    have hj' : j + 1 < c.points.length := by simpa using hj
    simpa using h j _ _ (List.getElem?_eq_getElem (by omega)) (List.getElem?_eq_getElem hj')

/-- The limits pass where the low one is below the high one, or there are none (R73). -/
theorem contentLimitsOk_iff (c : Content) :
    contentLimitsOk c = true ↔ ∀ l ∈ c.limits, l.low.toInt < l.high.toInt := by
  unfold contentLimitsOk
  cases c.limits <;> simp

/-- A due time has not come where it is after part time, or there is none (R18). -/
theorem dueBy_eq_false (now : Word) (c : Content) : dueBy now c = false ↔ ∀ d ∈ c.due, now.toNat < d.toNat := by
  unfold dueBy
  cases c.due <;> simp [BitVec.lt_def]

/-! ### The first failing entry (R71) -/

/-- An entry with a staged slot is validated by that slot's content (R71). -/
theorem State.validateEntry_slot {e : Entry} {i : SlotIdx} (h : e.slot = some i) :
    s.validateEntry e = validateContent s.partTime (s.slot i).content := by simp only [State.validateEntry, h]

/-- An entry passes where its staged slot's content does; a RETIRE entry passes (R71). -/
theorem State.validateEntry_none {e : Entry}
    (h : ∀ i, e.slot = some i → validateContent s.partTime (s.slot i).content = none) : s.validateEntry e = none := by
  cases hs : e.slot with
  | none => simp only [State.validateEntry, hs]
  | some i => exact (State.validateEntry_slot hs).trans (h i hs)

/-- The search for a failing entry passes over the entries that pass (R71). -/
theorem State.firstFailure_append {before : List Entry} (h : ∀ d ∈ before, s.validateEntry d = none) (rest : List Entry)
    (n : Nat) : s.firstFailure (before ++ rest) n = s.firstFailure rest (n + before.length) := by
  induction before generalizing n with
  | nil => rfl
  | cons d before ih =>
    simp only [List.cons_append, State.firstFailure, h d (by simp), ih fun d hd => h d (by simp [hd]), List.length_cons,
      Nat.add_assoc, Nat.add_comm 1]

/-- In a set whose entries all pass no entry fails (R71). -/
theorem State.firstFailure_of_pass {es : List Entry} (h : ∀ e ∈ es, s.validateEntry e = none) (n : Nat) :
    s.firstFailure es n = none := by
  rw [← es.append_nil, State.firstFailure_append h]
  rfl

/-- The first entry that fails is the one found, with its index and reason (R71). -/
theorem State.firstFailure_first {before : List Entry} (h : ∀ d ∈ before, s.validateEntry d = none) {e : Entry}
    {r : RejectReason} (he : s.validateEntry e = some r) (after : List Entry) :
    s.firstFailure (before ++ e :: after) 0 = some (before.length, r) := by
  rw [State.firstFailure_append h, State.firstFailure, he, Nat.zero_add]

/-! ### The answers of Commit (R69, R74, R75) -/

/-- Commit refuses an EMPTY set (R69). -/
theorem commit_noEdit (hl : s.isLoading = false) (he : s.edits = []) : commit s = .refuse s .noEdit := by
  rw [commit, unlessLoading_running hl, he]
  rfl

/-- Commit is refused during a save (R69). -/
theorem commit_storeBusy (hl : s.isLoading = false) (he : s.edits ≠ []) (hs : s.isSaving = true) :
    commit s = .refuse s .storeBusy := by
  rw [commit, unlessLoading_running hl, if_neg (by simpa using he), if_pos hs]

/-- A set with a failing entry is REJECTED (R74). -/
theorem commit_rejected (hl : s.isLoading = false) (he : s.edits ≠ []) (hs : s.isSaving = false) {index : Nat}
    {r : RejectReason} (hf : s.firstFailure s.edits 0 = some (index, r)) :
    commit s = { state := s.restartLease, status := .rejected, payload := [byteOf index, rejectCode r] } := by
  rw [commit, unlessLoading_running hl, if_neg (by simpa using he), if_neg (by simp [hs])]
  simp only [hf]

/-- The state after an accepted Commit, before its response (R75 to R80). -/
def State.committed (s : State) : State :=
  { s.edits.foldl State.applyEntry s with epoch := s.epoch + 1#32, edits := [], lease := .stopped }

/-- A set without a failing entry is applied (R75). -/
theorem commit_accepted (hl : s.isLoading = false) (he : s.edits ≠ []) (hs : s.isSaving = false)
    (hf : s.firstFailure s.edits 0 = none) : commit s = .ok s.committed (commitPayload s.committed s.edits) := by
  rw [commit, unlessLoading_running hl, if_neg (by simpa using he), if_neg (by simp [hs])]
  simp only [hf]
  rfl

/-- Settles O18: the four checks in their order, and Commit's answer for each of its checks. -/
theorem commitValidatesItsSet : Obligations.CommitValidatesItsSet := by
  have answer {s t : State} {st : Status} {payload : List Byte} (h : s.hears)
      (hr : commit s.count = { state := t.count, status := st, payload }) :
      exec .commit s = .next (t.answered .commit st payload) := exec_answered rfl h hr
  refine ⟨fun now c => ?_, fun s h => ⟨fun hl => ?_, fun hl => ⟨fun he => ?_, fun he => ⟨fun hs => ?_,
    fun hs before after e i r hes hb hi hr => ?_⟩⟩⟩⟩
  · simp only [← contentOrdered_iff, ← contentLimitsOk_iff, ← dueBy_eq_false]
    refine ⟨fun hn => ?_, fun hn ho => ?_, fun hn ho hl => ?_, fun hn ho hl hd => ?_, fun hn ho hl hd => ?_⟩
    · rw [validateContent, if_pos hn]
    · rw [validateContent, if_neg (by omega), if_pos (by simpa using ho)]
    · rw [validateContent, if_neg (by omega), if_neg (by simp [ho]), if_pos (by simpa using hl)]
    · rw [validateContent, if_neg (by omega), if_neg (by simp [ho]), if_neg (by simp [hl]), if_pos (by simpa using hd)]
    · rw [validateContent, if_neg (by omega), if_neg (by simp [ho]), if_neg (by simp [hl]), if_neg (by simp [hd])]
  · exact answer h (unlessLoading_loading (s := s.count) hl _)
  · exact answer h (commit_noEdit (s := s.count) hl he)
  · exact answer h (commit_storeBusy (s := s.count) hl he hs)
  · have hpass : ∀ d ∈ before, s.count.validateEntry d = none := fun d hd => State.validateEntry_none (hb d hd)
    have hfail : s.count.validateEntry e = some r := (State.validateEntry_slot hi).trans hr
    have hfirst : s.count.firstFailure s.count.edits 0 = some (before.length, r) :=
      (congrArg (s.count.firstFailure · 0) hes).trans (State.firstFailure_first hpass hfail after)
    refine answer h ((commit_rejected (s := s.count) hl he hs hfirst).trans ?_)
    cases r <;> rfl

end

end Sys2Proof.Machine

namespace Sys2Proof.Machine

section
variable {s t : State} {e : Entry} {es : List Entry}

/-! ### What one entry of an accepted Commit changes (R75 to R80) -/

/-- The map entry that an entry leaves its channel with: its staged slot under the next revision, or for RETIRE none
under the same (R76, R77, R79). -/
def State.mapEntryBy (s : State) (e : Entry) : MapEntry :=
  match e.slot with
  | some i => { binding := .bound i, revision := nextRevision (s.entry e.channel).revision }
  | none => { binding := .unassigned, revision := (s.entry e.channel).revision }

/-- The map after one entry was applied: no other channel's entry changes (R81). -/
theorem State.entry_applyEntry (s : State) (e : Entry) (c : Channel) :
    (s.applyEntry e).entry c = if c = e.channel then s.mapEntryBy e else s.entry c := by
  have hmap : (s.supersede e.channel).entry c = s.entry c := by rw [State.supersede_eq]; rfl
  have replaced (u : State) (m : MapEntry) : (u.setEntry e.channel m).entry c = if c = e.channel then m else u.entry c := by
    split
    case isTrue h => rw [h, State.entry_setEntry_same]
    case isFalse h => rw [State.entry_setEntry_other _ _ _ _ h]
  rw [← hmap]
  unfold State.applyEntry State.mapEntryBy
  cases e.slot with
  | none => exact replaced (s.supersede e.channel) _
  | some i => exact replaced ((s.supersede e.channel).setSlot i _) _

/-- The reasons after one entry was applied: its channel holds none (R80, R81). -/
theorem State.reasonsOf_applyEntry (s : State) (e : Entry) (c : Channel) :
    (s.applyEntry e).reasonsOf c = if c = e.channel then 0#5 else s.reasonsOf c := by
  have hreasons : (s.supersede e.channel).reasonsOf c = s.reasonsOf c := by rw [State.supersede_eq]; rfl
  have cleared (u : State) (hu : u.reasonsOf c = s.reasonsOf c) :
      (u.setReasons e.channel 0#5).reasonsOf c = if c = e.channel then 0#5 else s.reasonsOf c := by
    split
    case isTrue h => rw [h, State.reasonsOf_setReasons_same]
    case isFalse h => rw [State.reasonsOf_setReasons_other _ _ _ _ h, hu]
  unfold State.applyEntry
  cases e.slot with
  | none => exact cleared ((s.supersede e.channel).setEntry e.channel _) hreasons
  | some i => exact cleared ((s.supersede e.channel).installStaged e.channel i _) hreasons

/-- The repair queue after one entry was applied: its channel has left it (R80). -/
theorem State.repairQueue_applyEntry (s : State) (e : Entry) :
    (s.applyEntry e).repairQueue = s.repairQueue.filter fun c => c != e.channel := by
  unfold State.applyEntry
  rw [State.supersede_eq]
  cases e.slot <;> rfl

/-- The entry installs the slot, or its channel is bound to the slot (R77, R78, R79). -/
def State.touches (s : State) (e : Entry) (j : SlotIdx) : Prop := e.slot = some j ∨ s.boundSlot e.channel = some j

/-- An entry changes no slot that it does not touch (R81). -/
theorem State.slot_applyEntry_untouched {j : SlotIdx} (h : ¬ s.touches e j) : (s.applyEntry e).slot j = s.slot j := by
  obtain ⟨hslot, hbound⟩ := not_or.1 h
  rw [State.slot_applyEntry, if_neg hslot, State.slot_supersede, if_neg hbound]

/-- An entry installs its staged slot, to which its channel is not bound (R77). -/
theorem State.slot_applyEntry_installed {j : SlotIdx} (hj : e.slot = some j) (hb : s.boundSlot e.channel ≠ some j) :
    (s.applyEntry e).slot j = (s.slot j).installedAs e.channel (nextRevision (s.entry e.channel).revision) := by
  rw [State.slot_applyEntry, if_pos hj, State.slot_supersede, if_neg hb]

/-- An entry supersedes the slot that its channel is bound to (R78, R79). -/
theorem State.slot_applyEntry_released {j : SlotIdx} (hj : e.slot ≠ some j) (hb : s.boundSlot e.channel = some j) :
    (s.applyEntry e).slot j = (s.slot j).released := by
  rw [State.slot_applyEntry, if_neg hj, State.slot_supersede, if_pos hb]

/-- What an entry makes of a slot depends on the slot and its channel's map entry alone. -/
theorem State.slot_applyEntry_congr {j : SlotIdx} (hj : t.slot j = s.slot j)
    (hc : t.entry e.channel = s.entry e.channel) : (t.applyEntry e).slot j = (s.applyEntry e).slot j := by
  simp only [State.slot_applyEntry, State.slot_supersede, State.boundSlot_eq, hj, hc]

/-- What an entry touches is not changed by one of another channel. -/
theorem State.touches_applyEntry {d : Entry} (h : d.channel ≠ e.channel) (j : SlotIdx) :
    (s.applyEntry e).touches d j ↔ s.touches d j := by
  rw [State.touches, State.touches, State.boundSlot_applyEntry, if_neg h]

/-! ### What a whole set changes (R75 to R81) -/

/-- The channels of the other entries of a set differ from the first one's (R47). -/
theorem channel_ne_of_nodup (hn : ((e :: es).map Entry.channel).Nodup) : ∀ d ∈ es, d.channel ≠ e.channel := by
  rw [List.map_cons, List.nodup_cons] at hn
  exact fun d hd heq => hn.1 (heq ▸ List.mem_map_of_mem hd)

/-- A set leaves the map entries of all other channels (R81). -/
theorem State.entry_applyAll_other {c : Channel} (h : ∀ e ∈ es, e.channel ≠ c) :
    (es.foldl State.applyEntry s).entry c = s.entry c := by
  induction es generalizing s with
  | nil => rfl
  | cons e es ih =>
    rw [List.foldl_cons, ih fun d hd => h d (by simp [hd]), State.entry_applyEntry, if_neg (h e (by simp)).symm]

/-- A set writes the map entry of each of its channels (R76, R77, R79). -/
theorem State.entry_applyAll (hn : (es.map Entry.channel).Nodup) (he : e ∈ es) :
    (es.foldl State.applyEntry s).entry e.channel = s.mapEntryBy e := by
  induction es generalizing s with
  | nil => simp at he
  | cons d es ih =>
    have hne := channel_ne_of_nodup hn
    rw [List.foldl_cons]
    rcases List.mem_cons.1 he with rfl | he
    · rw [State.entry_applyAll_other hne, State.entry_applyEntry, if_pos rfl]
    · rw [ih (List.nodup_cons.1 hn).2 he, State.mapEntryBy, State.entry_applyEntry, if_neg (hne e he), State.mapEntryBy]

/-- A set clears the reasons of its channels, and of no other (R80, R81). -/
theorem State.reasonsOf_applyAll (es : List Entry) (s : State) (c : Channel) :
    (es.foldl State.applyEntry s).reasonsOf c = if c ∈ es.map Entry.channel then 0#5 else s.reasonsOf c := by
  induction es generalizing s with
  | nil => simp
  | cons e es ih =>
    rw [List.foldl_cons, ih, State.reasonsOf_applyEntry, List.map_cons]
    by_cases hc : c = e.channel <;> simp [hc]

/-- A set takes its channels out of the repair queue (R80). -/
theorem State.repairQueue_applyAll (es : List Entry) (s : State) :
    (es.foldl State.applyEntry s).repairQueue = s.repairQueue.filter fun c => es.all fun e => e.channel != c := by
  induction es generalizing s with
  | nil => simp
  | cons e es ih =>
    rw [List.foldl_cons, ih, State.repairQueue_applyEntry, List.filter_filter]
    refine List.filter_congr fun c _ => ?_
    rw [List.all_cons, Bool.and_comm, bne_comm]

/-- A set moves cells to the pool and loses none (R20). -/
theorem State.applyAll_cells (es : List Entry) (s : State) :
    (es.foldl State.applyEntry s).freeCells + (es.foldl State.applyEntry s).cellsUsed = s.freeCells + s.cellsUsed := by
  induction es generalizing s with
  | nil => rfl
  | cons e es ih => rw [List.foldl_cons, ih, State.applyEntry_cells]

/-- A set changes no slot that none of its entries touches (R81). -/
theorem State.slot_applyAll_untouched (hn : (es.map Entry.channel).Nodup) {j : SlotIdx} (h : ∀ e ∈ es, ¬ s.touches e j) :
    (es.foldl State.applyEntry s).slot j = s.slot j := by
  induction es generalizing s with
  | nil => rfl
  | cons e es ih =>
    have hrest (d : Entry) (hd : d ∈ es) : ¬ (s.applyEntry e).touches d j := by
      rw [State.touches_applyEntry (channel_ne_of_nodup hn d hd)]
      exact h d (by simp [hd])
    rw [List.foldl_cons, ih (List.nodup_cons.1 hn).2 hrest, State.slot_applyEntry_untouched (h e (by simp))]

/-- What a set does to a slot that one of its entries alone touches is what that entry does. -/
theorem State.slot_applyAll (hn : (es.map Entry.channel).Nodup) (he : e ∈ es) {j : SlotIdx}
    (h : ∀ d ∈ es, d.channel ≠ e.channel → ¬ s.touches d j) :
    (es.foldl State.applyEntry s).slot j = (s.applyEntry e).slot j := by
  induction es generalizing s with
  | nil => simp at he
  | cons d es ih =>
    have hne := channel_ne_of_nodup hn
    have hn' := (List.nodup_cons.1 hn).2
    rw [List.foldl_cons]
    rcases List.mem_cons.1 he with rfl | he
    · refine State.slot_applyAll_untouched hn' fun x hx => ?_
      rw [State.touches_applyEntry (hne x hx)]
      exact h x (by simp [hx]) (hne x hx)
    · have hd : d.channel ≠ e.channel := (hne e he).symm
      rw [ih hn' he fun x hx hxe => by
        rw [State.touches_applyEntry (hne x hx)]
        exact h x (by simp [hx]) hxe]
      exact State.slot_applyEntry_congr (State.slot_applyEntry_untouched (h d (by simp) hd))
        (by rw [State.entry_applyEntry, if_neg hd.symm])

/-! ### The laws keep the entries' slots apart (R1, R9) -/

/-- No two entries name one channel (R47). -/
theorem State.editLaw.channels_nodup (h : s.editLaw) : (s.edits.map Entry.channel).Nodup :=
  let ⟨_, _, hn, _⟩ := h
  hn

/-- No channel is bound to a slot that an entry names (R1, R9). -/
theorem State.editLaw.not_bound (h : s.editLaw) (hl : s.bindingLaw) (he : e ∈ s.edits) {j : SlotIdx}
    (hj : e.slot = some j) (c : Channel) : s.boundSlot c ≠ some j := by
  intro hb
  have hstaged : (s.slot j).state = .staged := (h.named j).1 (mem_namedSlots.2 ⟨e, he, hj⟩)
  have hcount := State.boundCount_pos hb
  rw [hl j, hstaged] at hcount
  exact absurd hcount (by simp [SlotState.installed])

/-- Two entries that name one slot are one entry (R9). -/
theorem State.editLaw.slot_unique (h : s.editLaw) {d : Entry} (hd : d ∈ s.edits) (he : e ∈ s.edits) {j : SlotIdx}
    (hdj : d.slot = some j) (hej : e.slot = some j) : d = e := by
  have happart : s.edits.Pairwise fun x y => x.slot = some j → y.slot = some j → x = y :=
    (List.pairwise_filterMap.1 h.nodup).imp fun hxy hx hy => absurd rfl (hxy j hx j hy)
  have hflip : s.edits.Pairwise (flip fun x y => x.slot = some j → y.slot = some j → x = y) :=
    happart.imp fun hxy hy hx => (hxy hx hy).symm
  exact happart.forall_of_forall_of_flip (fun _ _ _ _ => rfl) hflip hd he hdj hej

/-- An accepted set installs each of its staged slots (R77). -/
theorem State.editLaw.slot_installed (h : s.editLaw) (hl : s.bindingLaw) (he : e ∈ s.edits) {j : SlotIdx}
    (hj : e.slot = some j) : (s.edits.foldl State.applyEntry s).slot j =
      (s.slot j).installedAs e.channel (nextRevision (s.entry e.channel).revision) := by
  rw [State.slot_applyAll h.channels_nodup he, State.slot_applyEntry_installed hj (h.not_bound hl he hj e.channel)]
  rintro d hd hne (hdj | hb)
  · exact hne (congrArg Entry.channel (h.slot_unique hd he hdj hj))
  · exact h.not_bound hl he hj d.channel hb

/-- An accepted set supersedes each slot that one of its channels was bound to (R78, R79). -/
theorem State.editLaw.slot_superseded (h : s.editLaw) (hl : s.bindingLaw) (he : e ∈ s.edits) {j : SlotIdx}
    (hb : (s.entry e.channel).binding = .bound j) :
    (s.edits.foldl State.applyEntry s).slot j = (s.slot j).released := by
  have hbound := (s.boundSlot_iff e.channel j).2 hb
  have hnamed (d : Entry) (hd : d ∈ s.edits) : d.slot ≠ some j := fun hdj => h.not_bound hl hd hdj e.channel hbound
  rw [State.slot_applyAll h.channels_nodup he, State.slot_applyEntry_released (hnamed e he) hbound]
  rintro d hd hne (hdj | hdb)
  · exact hnamed d hd hdj
  · exact hne (State.bound_unique hl ((s.boundSlot_iff d.channel j).1 hdb) hb)

/-- Settles O19: the set is applied entry by entry, and the laws keep the entries apart. -/
theorem commitAppliesTheWholeSet : Obligations.CommitAppliesTheWholeSet := by
  intro s h hl hs he hbind hedit hv
  have hn := hedit.channels_nodup
  have hpass : s.count.firstFailure s.edits 0 = none :=
    State.firstFailure_of_pass (s := s.count) (fun e he => State.validateEntry_none (hv e he)) 0
  let x := s.edits.foldl State.applyEntry s.count
  let t : State := { s with
    map := x.map, slots := x.slots, freeCells := x.freeCells, reasons := x.reasons, repairQueue := x.repairQueue
    epoch := s.epoch + 1#32, edits := [], lease := .stopped }
  have hx : s.count.committed = t.count := by
    rw [State.committed, State.count_edits, State.applyAll_eq]
    rfl
  refine ⟨t.answered .commit .ok (commitPayload t s.edits), ?_, fun e he i hi => ⟨?_, ?_⟩, fun e he hi => ?_,
    fun e he i hb => State.editLaw.slot_superseded (s := s.count) hedit hbind he hb, fun i hi => ?_, fun e he => ?_,
    fun c hc => ⟨State.entry_applyAll_other (s := s.count) hc, ?_⟩,
    State.repairQueue_applyAll s.edits s.count, rfl, rfl, rfl, State.applyAll_cells s.edits s.count, rfl, rfl⟩
  · refine exec_answered (run := commit) rfl h ((commit_accepted (s := s.count) hl he hs hpass).trans ?_)
    rw [hx]
    rfl
  · refine (State.entry_applyAll (s := s.count) hn he).trans ?_
    rw [State.mapEntryBy, hi]
    rfl
  · exact State.editLaw.slot_installed (s := s.count) hedit hbind he hi
  · refine (State.entry_applyAll (s := s.count) hn he).trans ?_
    rw [State.mapEntryBy, hi]
    rfl
  · refine State.slot_applyAll_untouched (s := s.count) hn ?_
    rintro e he (hj | hb)
    · exact (hi e he).1 hj
    · exact (hi e he).2 ((s.boundSlot_iff e.channel i).1 hb)
  · exact (State.reasonsOf_applyAll s.edits s.count e.channel).trans (if_pos (List.mem_map_of_mem he))
  · refine (State.reasonsOf_applyAll s.edits s.count c).trans (if_neg fun hmem => ?_)
    obtain ⟨e, he, rfl⟩ := List.mem_map.1 hmem
    exact hc e he rfl

end

end Sys2Proof.Machine

namespace Sys2Proof.Machine

section
variable {s t : State}

/-! ### The law of the pending probe (R106, R194) -/

/-- Settles O57: no move touches the probe, and every turn keeps its law. -/
theorem probeLawIsKept : Obligations.ProbeLawIsKept := fun _ _ h hstep =>
  (step_run hstep).keeps h (fun _ _ hm => hm.probeLaw) (fun _ _ ht => ht.probeLaw)

/-! ### What leaves the lanes and the lookups in flight as they are -/

/-- The lanes and the lookups in flight are those of another state. -/
@[simp] abbrev State.sameLanes (t s : State) : Prop := t.lanes = s.lanes ∧ t.contexts = s.contexts

/-- What keeps the lanes at each element of a list keeps them along it. -/
theorem foldl_sameLanes {α : Type} {f : State → α → State} (h : ∀ s a, (f s a).sameLanes s) (l : List α) (s : State) :
    (l.foldl f s).sameLanes s := by
  induction l generalizing s with
  | nil => exact ⟨rfl, rfl⟩
  | cons a l ih => exact ⟨(ih _).1.trans (h s a).1, (ih _).2.trans (h s a).2⟩

@[simp] theorem State.refuseFrame_sameLanes (s : State) : s.refuseFrame.sameLanes s := ⟨rfl, rfl⟩

@[simp] theorem Answer.respond_sameLanes (a : Answer) (k : CommandCode) : (a.respond k).sameLanes a.state := ⟨rfl, rfl⟩

/-! #### The table -/

@[simp] theorem State.release_sameLanes (s : State) (i : SlotIdx) : (s.release i).sameLanes s := by
  rw [State.release_eq]
  exact ⟨rfl, rfl⟩

@[simp] theorem State.discard_sameLanes (s : State) (e : Entry) : (s.discard e).sameLanes s := by
  rw [State.discard_eq]
  exact ⟨rfl, rfl⟩

@[simp] theorem State.emptyEdits_sameLanes (s : State) : s.emptyEdits.sameLanes s :=
  foldl_sameLanes State.discard_sameLanes s.edits s

@[simp] theorem State.applyAll_sameLanes (es : List Entry) (s : State) : (es.foldl State.applyEntry s).sameLanes s := by
  rw [State.applyAll_eq]
  exact ⟨rfl, rfl⟩

@[simp] theorem State.raise_sameLanes (s : State) (c : Channel) (r : Reasons) : (s.raise c r).sameLanes s := ⟨rfl, rfl⟩

@[simp] theorem State.mismatch_sameLanes (s : State) (i : SlotIdx) : (s.mismatch i).sameLanes s := by
  unfold State.mismatch
  simp only [State.queueRepair_eq]
  split <;> exact ⟨rfl, rfl⟩

@[simp] theorem State.sweep_sameLanes (s : State) : s.sweep.sameLanes s := ⟨rfl, rfl⟩

@[simp] theorem State.upset_sameLanes (s : State) (i : SlotIdx) (c : Content) : (s.upset i c).sameLanes s := by
  unfold State.upset
  split <;> exact ⟨rfl, rfl⟩

@[simp] theorem State.markLost_sameLanes (s : State) (c : Channel) (r : Half) : (s.markLost c r).sameLanes s :=
  ⟨rfl, rfl⟩

@[simp] theorem State.loseRest_sameLanes (s : State) (w : Walk) : (s.loseRest w).sameLanes s :=
  foldl_sameLanes (fun s c => s.markLost_sameLanes c 0#16) (w.expected :: w.later) s

@[simp] theorem State.loadInstall_sameLanes (s : State) (i : SlotIdx) (c : Content) :
    (s.loadInstall i c).sameLanes s := by
  unfold State.loadInstall
  simp only
  split <;> exact ⟨rfl, rfl⟩

@[simp] theorem State.repairInstall_sameLanes (s : State) (r : RepairState) (i : SlotIdx) (c : Content) :
    (s.repairInstall r i c).sameLanes s := by
  simp [State.repairInstall]

/-! #### The store port and the operations' ends -/

@[simp] theorem State.issueFirst_sameLanes (s : State) : s.issueFirst.sameLanes s := by
  rw [State.issueFirst_eq]
  exact ⟨rfl, rfl⟩

@[simp] theorem State.issueHeaderRead_sameLanes (s : State) (area : Area) : (s.issueHeaderRead area).sameLanes s :=
  ⟨rfl, rfl⟩

@[simp] theorem State.issueDeferred_sameLanes (s : State) : s.issueDeferred.sameLanes s := by
  unfold State.issueDeferred
  split <;> simp

@[simp] theorem State.dropTransfer_sameLanes (s : State) : s.dropTransfer.sameLanes s := by
  rw [State.dropTransfer_eq]
  exact ⟨rfl, rfl⟩

@[simp] theorem State.startRepair_sameLanes (s : State) : s.startRepair.sameLanes s := by
  unfold State.startRepair
  repeat' split
  all_goals simp

@[simp] theorem State.endSave_sameLanes (s : State) (o : SaveOutcome) : (s.endSave o).sameLanes s := by
  simp [State.endSave, State.latch]

@[simp] theorem State.endLoad_sameLanes (s : State) (o : LoadOutcome) (epoch : Word) :
    (s.endLoad o epoch).sameLanes s := by
  simp [State.endLoad, State.latch]

@[simp] theorem State.endRepair_sameLanes (s : State) (o : RepairOutcome) : (s.endRepair o).sameLanes s := by
  simp [State.endRepair]

@[simp] theorem State.stopSave_sameLanes (s : State) (v : SaveState) : (s.stopSave v).sameLanes s := by
  simp [State.stopSave]

@[simp] theorem State.beginHeaders_sameLanes (s : State) : s.beginHeaders.sameLanes s := by
  rw [State.beginHeaders_eq]
  exact ⟨rfl, rfl⟩

@[simp] theorem State.endDrain_sameLanes (s : State) : s.endDrain.sameLanes s := by
  unfold State.endDrain
  split
  · split <;> simp
  · simp

@[simp] theorem State.startLoad_sameLanes (s : State) : s.startLoad.sameLanes s := by simp [State.startLoad]

@[simp] theorem State.bootLoad_sameLanes (s : State) (csLow : Bool) : (s.bootLoad csLow).sameLanes s := by
  unfold State.bootLoad
  split <;> simp

/-! #### A save -/

/-- A page write's completion touches the port and the store alone (R142). -/
theorem State.writeDone_sameLanes (h : s.writeDone = some t) : t.sameLanes s := by
  unfold State.writeDone at h
  split at h
  case h_1 => cases h; exact ⟨rfl, rfl⟩
  case h_2 => cases h

@[simp] theorem State.saveHeaderRead_sameLanes (s : State) : s.saveHeaderRead.sameLanes s := by
  unfold State.saveHeaderRead
  repeat' split
  all_goals simp

@[simp] theorem State.assemble_sameLanes (s : State) (g : Target) (v : SaveState) : (s.assemble g v).sameLanes s := by
  unfold State.assemble
  split
  case h_1 c found _ => cases found <;> simp
  case h_2 => split <;> simp [State.beginHeader]

@[simp] theorem State.invalidateDone_sameLanes (s : State) : s.invalidateDone.sameLanes s := by
  unfold State.invalidateDone
  split
  case h_1 v u _ hw => split <;> simp [State.writeDone_sameLanes hw]
  case h_2 => simp

@[simp] theorem State.bodyDone_sameLanes (s : State) : s.bodyDone.sameLanes s := by
  unfold State.bodyDone
  split
  case h_1 v u _ hw => split <;> simp [State.writeDone_sameLanes hw]
  case h_2 => simp

@[simp] theorem State.headerDone_sameLanes (s : State) : s.headerDone.sameLanes s := by
  unfold State.headerDone
  split
  case h_1 v u _ hw => split <;> simp [State.writeDone_sameLanes hw]
  case h_2 => simp

@[simp] theorem State.markerDone_sameLanes (s : State) : s.markerDone.sameLanes s := by
  unfold State.markerDone
  split
  case h_1 v u _ hw => split <;> simp [State.writeDone_sameLanes hw]
  case h_2 => simp

@[simp] theorem State.portFreed_sameLanes (s : State) : s.portFreed.sameLanes s := by simp [State.portFreed]

@[simp] theorem State.finishingDone_sameLanes (s : State) : s.finishingDone.sameLanes s := by
  unfold State.finishingDone
  split <;> simp

/-! #### A load -/

@[simp] theorem State.walkOn_sameLanes (s : State) (area : Area) (h : Header) (cs : List Channel) (x m n : Nat) :
    (s.walkOn area h cs x m n).sameLanes s := by
  cases cs <;> simp [State.walkOn]

@[simp] theorem State.loadHeader_sameLanes (s : State) (l : LoadState) (found : Option Header) :
    (s.loadHeader l found).sameLanes s := by
  unfold State.loadHeader State.chooseImage
  repeat' split
  all_goals simp

@[simp] theorem State.loadHeaderRead_sameLanes (s : State) : s.loadHeaderRead.sameLanes s := by
  unfold State.loadHeaderRead
  repeat' split
  all_goals simp

@[simp] theorem State.loadTail_sameLanes (s : State) (l : LoadState) (w : Walk) (head tail : List Byte) :
    (s.loadTail l w head tail).sameLanes s := by
  unfold State.loadTail
  simp only
  repeat' split
  all_goals simp [State.untrusted]

@[simp] theorem State.loadHead_sameLanes (s : State) (l : LoadState) (w : Walk) (head : List Byte) :
    (s.loadHead l w head).sameLanes s := by
  unfold State.loadHead
  simp only
  repeat' split
  all_goals simp [State.untrusted]

@[simp] theorem State.loadHeadRead_sameLanes (s : State) : s.loadHeadRead.sameLanes s := by
  unfold State.loadHeadRead
  repeat' split
  all_goals simp

@[simp] theorem State.loadTailRead_sameLanes (s : State) : s.loadTailRead.sameLanes s := by
  unfold State.loadTailRead
  repeat' split
  all_goals simp

@[simp] theorem State.loadSilent_sameLanes (s : State) (l : LoadState) : (s.loadSilent l).sameLanes s := by
  unfold State.loadSilent
  split <;> simp

/-! #### A repair -/

@[simp] theorem State.repairOn_sameLanes (s : State) (r : RepairState) (area : Area) (h : Header) (cs : List Channel)
    (x : Nat) : (s.repairOn r area h cs x).sameLanes s := by
  cases cs <;> simp [State.repairOn]

@[simp] theorem State.repairHeader_sameLanes (s : State) (r : RepairState) (found : Option Header) :
    (s.repairHeader r found).sameLanes s := by
  unfold State.repairHeader State.repairChoose
  repeat' split
  all_goals simp

@[simp] theorem State.repairHeaderRead_sameLanes (s : State) : s.repairHeaderRead.sameLanes s := by
  unfold State.repairHeaderRead
  repeat' split
  all_goals simp

@[simp] theorem State.repairTail_sameLanes (s : State) (r : RepairState) (w : Walk) (head tail : List Byte) :
    (s.repairTail r w head tail).sameLanes s := by
  unfold State.repairTail
  simp only
  repeat' split
  all_goals simp

@[simp] theorem State.repairHead_sameLanes (s : State) (r : RepairState) (w : Walk) (head : List Byte) :
    (s.repairHead r w head).sameLanes s := by
  unfold State.repairHead
  simp only
  repeat' split
  all_goals simp

@[simp] theorem State.repairHeadRead_sameLanes (s : State) : s.repairHeadRead.sameLanes s := by
  unfold State.repairHeadRead
  repeat' split
  all_goals simp

@[simp] theorem State.repairTailRead_sameLanes (s : State) : s.repairTailRead.sameLanes s := by
  unfold State.repairTailRead
  repeat' split
  all_goals simp

@[simp] theorem State.repairSilent_sameLanes (s : State) (r : RepairState) : (s.repairSilent r).sameLanes s := by
  unfold State.repairSilent
  split <;> simp

/-! #### The tick -/

@[simp] theorem State.leaseTick_sameLanes (s : State) : s.leaseTick.sameLanes s := by
  unfold State.leaseTick
  repeat' split
  all_goals simp [State.latch]

@[simp] theorem State.timeTick_sameLanes (s : State) : s.timeTick.sameLanes s := by
  unfold State.timeTick
  split <;> simp [State.secondsTick]

@[simp] theorem State.portTick_sameLanes (s : State) (took : Bool) : (s.portTick took).sameLanes s := by
  have after (p : Transfer) : (s.afterSilence p took).sameLanes s := by
    unfold State.afterSilence
    split <;> simp
  unfold State.portTick State.silence
  simp only
  repeat' split
  all_goals simp [State.saveSilent, after]

@[simp] theorem State.scrubTick_sameLanes (s : State) : s.scrubTick.sameLanes s := by
  unfold State.scrubTick State.scrubCheck
  simp only
  repeat' split
  all_goals simp

/-- An event that is not taken in reset keeps the lanes where it keeps them out of it (log entry 12). -/
theorem State.awake_sameLanes {f : State → State} (h : (f s).sameLanes s) : (s.awake f).sameLanes s := by
  unfold State.awake
  split
  · exact ⟨rfl, rfl⟩
  · exact h

@[simp] theorem State.tick_sameLanes (s : State) (took : Bool) : (s.tick took).sameLanes s :=
  State.awake_sameLanes (by simp)

/-- A row that names a tick takes the tick or does nothing (log entry 7). -/
theorem State.tick_row_sameLanes {b : Prop} [Decidable b] (s : State) (took : Bool) :
    State.sameLanes (if b then s.tick took else s) s := by
  split <;> simp
end

end Sys2Proof.Machine

namespace Sys2Proof.Machine

section
variable {s t : State}

/-! ### Commands and the lanes -/

/-- A frame keeps the lanes where its command does (R191). -/
theorem State.takeFrame_sameLanes {k : CommandCode} {run : State → Answer} (h : (run s.count).state.sameLanes s) :
    (s.takeFrame k run).sameLanes s := by
  unfold State.takeFrame
  repeat' split
  · simp
  · simp
  · exact h

/-- A command that LOADING may refuse keeps the lanes where its own checks do (R50). -/
theorem unlessLoading_sameLanes {run : State → Answer} (h : (run t).state.sameLanes s) (ht : t.sameLanes s) :
    (unlessLoading run t).state.sameLanes s := by
  unfold unlessLoading
  split
  · exact ht
  · exact h

/-- So does a content command (R56). -/
theorem onStaged_sameLanes {c : Channel} {run : State → SlotIdx → Answer} (h : ∀ i, (run t i).state.sameLanes s)
    (ht : t.sameLanes s) : (onStaged c run t).state.sameLanes s := by
  refine unlessLoading_sameLanes ?_ ht
  repeat' split
  · exact ht
  · exact ht
  · exact h _

theorem openEdit_sameLanes (c : Channel) (kind : Byte) (s : State) : (openEdit c kind s).state.sameLanes s := by
  refine unlessLoading_sameLanes ?_ ⟨rfl, rfl⟩
  have opened (k : EditKind) (taken : Option (SlotIdx × Content)) : (s.openEntry c k taken).state.sameLanes s := by
    cases taken <;> exact ⟨rfl, rfl⟩
  unfold State.openStaged
  simp only
  repeat' split
  all_goals simp [Answer.refuse, opened]

theorem setFields_sameLanes (c : Channel) (f : FieldBytes) (s : State) : (setFields c f s).state.sameLanes s :=
  onStaged_sameLanes (fun i => by split <;> exact ⟨rfl, rfl⟩) ⟨rfl, rfl⟩

theorem setLabel_sameLanes (c : Channel) (label : List Byte) (s : State) : (setLabel c label s).state.sameLanes s :=
  onStaged_sameLanes (fun i => by split <;> exact ⟨rfl, rfl⟩) ⟨rfl, rfl⟩

theorem putPoints_sameLanes (c : Channel) (start : Byte) (points : List Point) (s : State) :
    (putPoints c start points s).state.sameLanes s := by
  refine onStaged_sameLanes (fun i => ?_) ⟨rfl, rfl⟩
  simp only
  repeat' split
  all_goals exact ⟨rfl, rfl⟩

theorem trimPoints_sameLanes (c : Channel) (count : Byte) (s : State) : (trimPoints c count s).state.sameLanes s :=
  onStaged_sameLanes (fun i => by simp only; split <;> exact ⟨rfl, rfl⟩) ⟨rfl, rfl⟩

theorem dropEdit_sameLanes (c : Channel) (s : State) : (dropEdit c s).state.sameLanes s := by
  refine unlessLoading_sameLanes ?_ ⟨rfl, rfl⟩
  split
  · exact ⟨rfl, rfl⟩
  · simp only [Answer.ok]
    split <;> simp

theorem abandon_sameLanes (s : State) : (abandon s).state.sameLanes s := by
  refine unlessLoading_sameLanes ?_ ⟨rfl, rfl⟩
  split
  · exact ⟨rfl, rfl⟩
  · exact s.emptyEdits_sameLanes

theorem commit_sameLanes (s : State) : (commit s).state.sameLanes s := by
  refine unlessLoading_sameLanes ?_ ⟨rfl, rfl⟩
  repeat' split
  case h_2 => exact State.applyAll_sameLanes s.edits s
  all_goals exact ⟨rfl, rfl⟩

theorem readEditSet_sameLanes (start : Byte) (s : State) : (readEditSet start s).state.sameLanes s := by
  unfold readEditSet
  split <;> exact ⟨rfl, rfl⟩

theorem probe_sameLanes (c : Channel) (raw : Half) (which : Byte) (s : State) :
    (probe c raw which s).state.sameLanes s := by
  refine unlessLoading_sameLanes ?_ ⟨rfl, rfl⟩
  repeat' split
  all_goals exact ⟨rfl, rfl⟩

theorem readRecord_sameLanes (c : Channel) (which : Byte) (s : State) : (readRecord c which s).state.sameLanes s := by
  unfold readRecord
  split <;> exact ⟨rfl, rfl⟩

theorem readPoints_sameLanes (c : Channel) (which start count : Byte) (s : State) :
    (readPoints c which start count s).state.sameLanes s := by
  unfold readPoints
  simp only
  repeat' split
  all_goals exact ⟨rfl, rfl⟩

theorem clearReasons_sameLanes (c : Channel) (selection : Byte) (s : State) :
    (clearReasons c selection s).state.sameLanes s := by
  unfold clearReasons
  split <;> exact ⟨rfl, rfl⟩

theorem clearCauses_sameLanes (selection : Byte) (s : State) : (clearCauses selection s).state.sameLanes s := by
  unfold clearCauses
  split <;> exact ⟨rfl, rfl⟩

theorem saveCommand_sameLanes (s : State) : (saveCommand s).state.sameLanes s := by
  unfold saveCommand
  repeat' split
  all_goals simp [Answer.refuse, State.startSave]

theorem stopSaveCommand_sameLanes (s : State) : (stopSaveCommand s).state.sameLanes s := by
  unfold stopSaveCommand
  split <;> simp [Answer.refuse, Answer.ok]

theorem reload_sameLanes (s : State) : (reload s).state.sameLanes s := by
  unfold reload
  repeat' split
  all_goals simp [Answer.refuse]

theorem setControl_sameLanes (selection : Half) (v : ControlBytes) (s : State) :
    (setControl selection v s).state.sameLanes s := by
  unfold setControl
  split <;> simp [Answer.refuse, Answer.ok]

/-- Every command but Restart keeps the lanes and the lookups in flight. -/
theorem runCommand_sameLanes {i : Instr} (hi : i ≠ .restart) (h : runCommand i s = .next t) : t.sameLanes s := by
  cases i <;> cases h
  case openEdit c kind => exact State.takeFrame_sameLanes (openEdit_sameLanes c kind s.count)
  case setFields c f => exact State.takeFrame_sameLanes (setFields_sameLanes c f s.count)
  case setLabel c label => exact State.takeFrame_sameLanes (setLabel_sameLanes c label s.count)
  case putPoints c start points => exact State.takeFrame_sameLanes (putPoints_sameLanes c start points s.count)
  case trimPoints c count => exact State.takeFrame_sameLanes (trimPoints_sameLanes c count s.count)
  case dropEdit c => exact State.takeFrame_sameLanes (dropEdit_sameLanes c s.count)
  case abandon => exact State.takeFrame_sameLanes (abandon_sameLanes s.count)
  case commit => exact State.takeFrame_sameLanes (commit_sameLanes s.count)
  case readEditSet start => exact State.takeFrame_sameLanes (readEditSet_sameLanes start s.count)
  case probe c raw which => exact State.takeFrame_sameLanes (probe_sameLanes c raw which s.count)
  case readRecord c which => exact State.takeFrame_sameLanes (readRecord_sameLanes c which s.count)
  case readPoints c which start count =>
    exact State.takeFrame_sameLanes (readPoints_sameLanes c which start count s.count)
  case clearReasons c selection => exact State.takeFrame_sameLanes (clearReasons_sameLanes c selection s.count)
  case clearCauses selection => exact State.takeFrame_sameLanes (clearCauses_sameLanes selection s.count)
  case save => exact State.takeFrame_sameLanes (saveCommand_sameLanes s.count)
  case stopSave => exact State.takeFrame_sameLanes (stopSaveCommand_sameLanes s.count)
  case reload => exact State.takeFrame_sameLanes (reload_sameLanes s.count)
  case setControl selection values => exact State.takeFrame_sameLanes (setControl_sameLanes selection values s.count)
  case restart => exact absurd rfl hi
  case readMapEntry | setTime | readAttention | readControl | readStatus | readIdentity =>
    exact State.takeFrame_sameLanes ⟨rfl, rfl⟩
  all_goals exact ⟨rfl, rfl⟩

/-! ### The law of the lanes (R89, R92) -/

/-- The requester of a context's lookup is this lane. -/
def laneLookup (n : LaneIdx) (l : Option Lookup) : Bool := l.any fun l => l.requester == .lane n

/-- A lane's lookups after one context was replaced. -/
theorem State.laneContexts_setContext (s : State) (k : CtxIdx) (l : Option Lookup) (n : LaneIdx) :
    (s.setContext k l).laneContexts n + (if laneLookup n (s.context k) then 1 else 0) =
      s.laneContexts n + if laneLookup n l then 1 else 0 := by
  have h := countP_finRange_change (fun j => laneLookup n (s.context j))
    (fun j => laneLookup n ((s.setContext k l).context j)) k
    fun j hj => by rw [State.context_setContext_other _ _ _ _ hj]
  rw [State.context_setContext_same] at h
  exact h

/-- The lanes' lookups are counted in the contexts alone. -/
theorem State.laneContexts_congr (h : t.contexts = s.contexts) (n : LaneIdx) : t.laneContexts n = s.laneContexts n := by
  simp [State.laneContexts, State.context, h]

/-- A grant adds its lookup to the count. -/
theorem State.laneContexts_begin {k : CtxIdx} (hk : s.context k = none) (l : Lookup) (n : LaneIdx) :
    (s.begin k l).laneContexts n = s.laneContexts n + if laneLookup n (some l) then 1 else 0 := by
  have h := s.laneContexts_setContext k (some l) n
  rw [hk] at h
  rw [State.begin_eq]
  exact h

/-- The end of a lookup takes it out of the count. -/
theorem State.laneContexts_finish {k : CtxIdx} {l : Lookup} (hk : s.context k = some l) (n : LaneIdx) :
    (s.finish k l).laneContexts n + (if laneLookup n (some l) then 1 else 0) = s.laneContexts n := by
  have h := s.laneContexts_setContext k none n
  rw [hk] at h
  rw [State.finish_eq, State.laneContexts_congr (State.endDrain_sameLanes _).2, State.endLookup_eq]
  exact h

/-- The end of a lookup keeps the lanes. -/
theorem State.finish_lanes (s : State) (k : CtxIdx) (l : Lookup) : (s.finish k l).lanes = s.lanes := by
  rw [State.finish_eq, (State.endDrain_sameLanes _).1, State.endLookup_eq]
  rfl

/-- What the law of the lanes says of one lane, with this many lookups in flight. -/
def Lane.lawful (lane : Lane) (lookups : Nat) : Prop :=
  lane.inFlight = lookups ∧ lane.results.length + lane.inFlight ≤ Config.laneDepth ∧
    lane.requests.length ≤ Config.laneDepth

/-- The law of the lanes, lane by lane. -/
theorem State.laneLaw_iff (s : State) : s.laneLaw ↔ ∀ n, (s.lane n).lawful (s.laneContexts n) := Iff.rfl

/-- The law of the lanes is a law of the lanes and of the lookups they have in flight. -/
theorem State.laneLaw.congr (h : s.laneLaw) (hl : t.lanes = s.lanes) (hc : ∀ n, t.laneContexts n = s.laneContexts n) :
    t.laneLaw := fun n => by
  rw [hc n, show t.lane n = s.lane n by simp [State.lane, hl]]
  exact h n

/-- What keeps the lanes and the lookups in flight keeps the law of the lanes. -/
theorem State.laneLaw.same (h : s.laneLaw) (hs : t.sameLanes s) : t.laneLaw :=
  h.congr hs.1 (State.laneContexts_congr hs.2)

/-- Lookups replaced by lookups of the same requesters. -/
theorem State.laneContexts_map {f : Lookup → Lookup} (hf : ∀ l, (f l).requester = l.requester)
    (h : ∀ k, t.context k = (s.context k).map f) (n : LaneIdx) : t.laneContexts n = s.laneContexts n := by
  unfold State.laneContexts
  refine congrFun (congrArg List.countP (funext fun k => ?_)) _
  rw [h k]
  cases s.context k <;> simp [hf]

/-- One lane replaced by a lawful one. -/
theorem State.laneLaw.setLane (h : s.laneLaw) {n : LaneIdx} {lane : Lane} (hn : lane.lawful (t.laneContexts n))
    (hl : t.lanes = (s.setLane n lane).lanes) (hc : ∀ m, m ≠ n → t.laneContexts m = s.laneContexts m) : t.laneLaw := by
  refine (State.laneLaw_iff t).2 fun m => ?_
  have hm : t.lane m = (s.setLane n lane).lane m := by simp only [State.lane, hl]
  rw [hm]
  by_cases e : m = n
  · subst e
    rw [State.lane_setLane_same]
    exact hn
  · rw [State.lane_setLane_other _ _ _ _ e, hc m e]
    exact h m

/-- A request joins its queue only while there is room (R90). -/
theorem State.laneLaw.arrive (h : s.laneLaw) (n : LaneIdx) (word : Word) : (s.arrive n word).laneLaw := by
  unfold State.arrive
  split
  case isFalse => exact h
  case isTrue hr =>
    obtain ⟨hflight, hresults, -⟩ := h n
    refine h.setLane (lane := { s.lane n with requests := (s.lane n).requests ++ [requestOfWord word] })
      ⟨hflight, hresults, ?_⟩ rfl fun _ _ => rfl
    simp only [State.laneReady, Bool.and_eq_true, decide_eq_true_eq] at hr
    simpa using hr.2

/-- A take shortens its queue (R92). -/
theorem State.laneLaw.takeResult (h : s.laneLaw) (n : LaneIdx) : (s.takeResult n).laneLaw := by
  obtain ⟨hflight, hresults, hrequests⟩ := h n
  refine h.setLane (lane := { s.lane n with results := (s.lane n).results.tail }) ⟨hflight, ?_, hrequests⟩ rfl
    fun _ _ => rfl
  simp only [List.length_tail]
  omega

/-- A grant moves a request in flight where there is room for its result (R89, R96, R100). -/
theorem State.laneLaw.laneGrant (h : s.laneLaw) : s.laneGrant.laneLaw := by
  unfold State.laneGrant
  split
  case h_2 => exact h
  case h_1 p k hsel =>
    obtain ⟨-, hk, -, d, -, hmay, -⟩ := State.grants_of_selected hsel
    split
    case isFalse => exact h
    case isTrue hp =>
      obtain ⟨n, rfl, -, hroom⟩ | ⟨rfl, -⟩ := hmay
      case inr => exact absurd hp (by decide)
      show (s.grantLane n k).laneLaw
      unfold State.grantLane
      split
      case h_1 => exact h
      case h_2 q rest hq =>
        obtain ⟨hflight, -, hrequests⟩ := h n
        rw [hq] at hrequests
        have hcount (l : Lookup) (m : LaneIdx) (lane : Lane) :=
          State.laneContexts_begin (s := s.setLane n lane) hk l m
        refine h.setLane (n := n) (lane := { s.lane n with requests := rest, inFlight := (s.lane n).inFlight + 1 })
          ⟨?_, ?_, ?_⟩ ?_ fun m hm => ?_
        · exact (congrArg (· + 1) hflight).trans ((hcount _ n _).trans (by simp [laneLookup]; rfl)).symm
        · show (s.lane n).results.length + ((s.lane n).inFlight + 1) ≤ Config.laneDepth
          exact hroom
        · exact (Nat.le_succ _).trans hrequests
        · show (State.begin _ _ _).lanes = _
          rw [State.begin_eq]
          rfl
        · exact (hcount _ m _).trans (by simp [laneLookup, hm.symm]; rfl)

/-- The grant of a probe is no lane's (R107). -/
theorem State.laneLaw.probeGrant (h : s.laneLaw) : s.probeGrant.laneLaw := by
  have begun {k : CtxIdx} (hk : s.context k = none) (p : ProbeRequest) (b : Option Binding) (r : Half)
      (i : Option SlotIdx) : (s.beginProbe k p b r i).laneLaw := by
    refine h.congr ?_ fun n => (State.laneContexts_begin hk _ n).trans (by simp [laneLookup])
    show (State.begin _ _ _).lanes = _
    rw [State.begin_eq]
    rfl
  unfold State.probeGrant
  split
  case h_2 => exact h
  case h_1 p k hsel =>
    obtain ⟨-, hk⟩ := State.selected_free hsel
    split
    case isTrue => exact h
    case isFalse =>
      unfold State.grantProbe
      split
      case h_2 => exact h
      case h_1 q _ =>
        split
        case h_1 => exact begun hk q _ _ _
        case h_2 =>
          split
          case h_1 => exact begun hk q _ _ _
          case h_2 => exact h

/-- The lane after the completion of one of its lookups: the result queued, unless it is to be dropped, and one lookup
fewer in flight (R101, R104). -/
def State.laneAfter (s : State) (l : Lookup) (n : LaneIdx) : Lane :=
  { s.lane n with
    results := if l.drop then (s.lane n).results else (s.lane n).results ++ [lookupResult l s.slot]
    inFlight := (s.lane n).inFlight - 1 }

/-- What a lane's completion does before its lookup ends: LIMIT raised, the result queued (R101). -/
def State.laneTold (s : State) (l : Lookup) (n : LaneIdx) : State :=
  State.setLane (if (lookupResult l s.slot).limitFlagged && !l.drop then s.raise l.channel limitBit else s) n
    (s.laneAfter l n)

/-- A lane's completion tells the lane and ends the lookup (R101). -/
theorem State.completeLane_eq (s : State) (k : CtxIdx) (l : Lookup) (n : LaneIdx) :
    s.completeLane k l n = (s.laneTold l n).finish k l := rfl

/-- The telling changes the reasons and the lane only. -/
theorem State.laneTold_frame (s : State) (l : Lookup) (n : LaneIdx) :
    ∃ r, s.laneTold l n = { s.setLane n (s.laneAfter l n) with reasons := r } := by
  unfold State.laneTold
  split <;> exact ⟨_, rfl⟩

/-- A completion of a lane's lookup queues at most the result it had room for (R89, R101). -/
theorem State.laneLaw.laneCompletion (h : s.laneLaw) (k : CtxIdx) : (s.laneCompletion k).laneLaw := by
  unfold State.laneCompletion
  split
  case h_2 => exact h
  case h_1 l hk =>
    split
    case h_2 => exact h
    case h_1 n hn =>
      obtain ⟨hflight, hroom, hrequests⟩ := h n
      obtain ⟨r, htold⟩ := s.laneTold_frame l n
      rw [State.completeLane_eq, htold]
      have hcount (m : LaneIdx) := State.laneContexts_finish
        (s := { s.setLane n (s.laneAfter l n) with reasons := r }) hk m
      have hself := hcount n
      rw [show laneLookup n (some l) = true by simp [laneLookup, hn]] at hself
      have hself : State.laneContexts _ n + 1 = s.laneContexts n := hself
      refine h.setLane (n := n) (lane := s.laneAfter l n) ⟨?_, ?_, hrequests⟩ (State.finish_lanes _ k l) fun m hm => ?_
      · show (s.lane n).inFlight - 1 = _
        omega
      · have hlength : (s.laneAfter l n).results.length ≤ (s.lane n).results.length + 1 := by
          unfold State.laneAfter
          cases l.drop <;> simp
        show _ + ((s.lane n).inFlight - 1) ≤ _
        omega
      · have hother := hcount m
        rwa [show laneLookup m (some l) = false by simp [laneLookup, hn, hm.symm]] at hother

/-- The completion of a probe is no lane's (R108). -/
theorem State.laneLaw.probeCompletion (h : s.laneLaw) (k : CtxIdx) : (s.probeCompletion k).laneLaw := by
  unfold State.probeCompletion
  split
  case h_2 => exact h
  case h_1 l hk =>
    split
    case h_2 => exact h
    case h_1 hr =>
      obtain ⟨q, r, htold⟩ := s.probeTold_frame l
      show ((s.probeTold l).finish k l).laneLaw
      rw [htold]
      refine h.congr (State.finish_lanes _ k l) fun n => ?_
      have hcount := State.laneContexts_finish (s := { s with probe := q, response := r }) hk n
      rwa [show laneLookup n (some l) = false by simp [laneLookup, hr]] at hcount

/-- Restart empties the queues and keeps the lookups in flight (R94, R104). -/
theorem State.laneLaw.restart (h : s.laneLaw) : s.restart.laneLaw := by
  have hblocks : s.restartBlocks.laneLaw := by
    have hsame := s.emptyEdits_sameLanes
    have hcontext (k : CtxIdx) : s.restartBlocks.context k = (s.context k).map fun l => { l with drop := true } := by
      refine (tabulate_get _ k).trans ?_
      simp only [State.context, hsame.2]
    have hlane (n : LaneIdx) : s.restartBlocks.lane n = { Lane.blank with inFlight := (s.lane n).inFlight } := by
      refine (tabulate_get _ n).trans ?_
      simp only [State.lane, State.dropLookups, hsame.1]
    refine (State.laneLaw_iff _).2 fun n => ?_
    obtain ⟨hflight, hroom, -⟩ := h n
    rw [hlane, State.laneContexts_map (f := fun l => { l with drop := true }) (fun _ => rfl) hcontext]
    exact ⟨hflight, by simp [Lane.blank]; omega, Nat.zero_le _⟩
  have hsame : s.restart.sameLanes s.restartBlocks := by
    unfold State.restart State.restartStore
    repeat' split
    all_goals simp
  exact hblocks.same hsame

/-- A frame of a length that its layout does not allow leaves the lookups in flight their requesters (R191). -/
theorem State.laneLaw.takeBadLength (h : s.laneLaw) (k : CommandCode) : (s.takeBadLength k).laneLaw := by
  have refused (u : State) :
      (if loadingFirst k && u.isLoading then Answer.refuse u .loading else .refuse u .badParam).state.sameLanes u := by
    split <;> exact ⟨rfl, rfl⟩
  have hdrop : s.dropProbe.count.laneLaw :=
    h.congr rfl (State.laneContexts_map (f := fun l => if l.requester = .host then { l with drop := true } else l)
      (fun l => by split <;> rfl) fun k => by
        refine (tabulate_get _ k).trans ?_
        cases s.context k with
        | none => rfl
        | some l => simp only [Option.map_some]; split <;> rfl)
  unfold State.takeBadLength
  simp only
  split
  case isTrue => exact hdrop.same (refused _)
  case isFalse => exact h.same (State.takeFrame_sameLanes (refused _))

/-- A frame error changes the buffer alone (R190). -/
theorem State.takeFrameError_sameLanes (s : State) (code : Option Byte) (e : FrameError) :
    (s.takeFrameError code e).sameLanes s := by
  unfold State.takeFrameError
  repeat' split
  all_goals exact ⟨rfl, rfl⟩

/-- Every command keeps the law of the lanes. -/
theorem State.laneLaw.of_runCommand (h : s.laneLaw) {i : Instr} (hrun : runCommand i s = .next t) : t.laneLaw := by
  by_cases hi : i = .restart
  · subst hi
    have ht : t = if s.portOpen then s.restart else s := by cases hrun; rfl
    rw [ht]
    split
    · exact h.restart
    · exact h
  · exact h.same (runCommand_sameLanes hi hrun)

/-- A command write keeps the law of the lanes (R189). -/
theorem State.laneLaw.of_commandWrite (h : s.laneLaw) {bytes : List Byte} (hrun : s.commandWrite bytes = .next t) :
    t.laneLaw := by
  have hs : State.laneLaw { s with sdo := List.replicate (bytes.length + 1) 0#8 } := h
  unfold State.commandWrite at hrun
  simp only at hrun
  split at hrun
  case h_1 => cases hrun; exact hs.same (State.takeFrameError_sameLanes _ _ _)
  case h_2 k payload _ =>
    split at hrun
    case h_1 => cases hrun; exact hs.takeBadLength k
    case h_2 => exact hs.of_runCommand hrun

/-- Every row of the table keeps the law of the lanes. -/
theorem State.laneLaw.of_exec (h : s.laneLaw) (i : Instr) (hrun : exec i s = .next t) : t.laneLaw := by
  have command (hc : exec i s = runCommand i s) : t.laneLaw := h.of_runCommand (hc ▸ hrun)
  have next {u : State} (e : exec i s = .next u) : t = u := by rw [e] at hrun; cases hrun; rfl
  have awake {f : State → State} (hf : (f s).sameLanes s) (e : t = s.awake f) : t.laneLaw :=
    h.same (e ▸ State.awake_sameLanes hf)
  have awake_law {f : State → State} (hf : (f s).laneLaw) (e : t = s.awake f) : t.laneLaw := by
    subst e
    unfold State.awake
    split
    · exact h
    · exact hf
  have row {b : Prop} [Decidable b] {took : Bool} (e : t = if b then s.tick took else s) : t.laneLaw :=
    h.same (e ▸ State.tick_row_sameLanes s took)
  cases i
  case powerOnReset torn => exact next rfl ▸ State.laneLaw_reset.same ⟨rfl, rfl⟩
  case pinReset torn => exact next rfl ▸ State.laneLaw_reset.same ⟨rfl, rfl⟩
  case bootLoad csLow => exact next rfl ▸ h.same (s.bootLoad_sameLanes csLow)
  case commandWrite bytes =>
    by_cases ho : s.portOpen = true
    · exact h.of_commandWrite ((if_pos ho).symm.trans hrun)
    · exact (next (if_neg ho)) ▸ h
  case frameError code e => exact next rfl ▸ h.same (State.takeFrameError_sameLanes s code e)
  case responseRead n =>
    have := next rfl
    subst this
    split <;> exact h
  case ignoredTransaction bytes =>
    have := next rfl
    subst this
    split <;> exact h
  case requestArrival n word => exact next rfl ▸ h.arrive n word
  case resultTake n => exact next rfl ▸ h.takeResult n
  case laneGrant => exact awake_law h.laneGrant (next rfl)
  case probeGrant => exact awake_law h.probeGrant (next rfl)
  case laneCompletion k => exact awake_law (h.laneCompletion k) (next rfl)
  case probeCompletion k => exact awake_law (h.probeCompletion k) (next rfl)
  case millisecondTick took => exact next rfl ▸ h.same (s.tick_sameLanes took)
  case secondsTick took => exact row (next rfl)
  case leaseLapse took => exact row (next rfl)
  case stepExpiry took => exact row (next rfl)
  case upset i content => exact next rfl ▸ h.same (s.upset_sameLanes i content)
  case saveHeaderReadCompletion => exact awake s.saveHeaderRead_sameLanes (next rfl)
  case invalidateWriteCompletion => exact awake s.invalidateDone_sameLanes (next rfl)
  case bodyWriteCompletion => exact awake s.bodyDone_sameLanes (next rfl)
  case headerWriteCompletion => exact awake s.headerDone_sameLanes (next rfl)
  case markerWriteCompletion => exact awake s.markerDone_sameLanes (next rfl)
  case saveStoreSilence took => exact row (next rfl)
  case finishingWriteCompletion => exact awake s.finishingDone_sameLanes (next rfl)
  case finishingWriteSilence took => exact row (next rfl)
  case deferredTransferIssue => exact awake s.issueDeferred_sameLanes (next rfl)
  case tableClear => exact awake s.endDrain_sameLanes (next rfl)
  case loadHeaderReadCompletion => exact awake s.loadHeaderRead_sameLanes (next rfl)
  case loadHeaderSilence => exact row (next rfl)
  case loadHeadReadCompletion => exact awake s.loadHeadRead_sameLanes (next rfl)
  case loadTailReadCompletion => exact awake s.loadTailRead_sameLanes (next rfl)
  case loadWalkSilence => exact row (next rfl)
  case repairStart => exact awake s.startRepair_sameLanes (next rfl)
  case repairHeaderReadCompletion => exact awake s.repairHeaderRead_sameLanes (next rfl)
  case repairHeadReadCompletion => exact awake s.repairHeadRead_sameLanes (next rfl)
  case repairTailReadCompletion => exact awake s.repairTailRead_sameLanes (next rfl)
  case repairStoreSilence => exact row (next rfl)
  case chipSelectRiseAfterReset => exact awake (f := State.chipSelectRise) ⟨rfl, rfl⟩ (next rfl)
  all_goals exact command rfl

/-- Settles O56: grants and completions keep the count, and everything else keeps the lanes or empties them. -/
theorem laneLawIsKept : Obligations.LaneLawIsKept := by
  intro s t h hstep
  unfold step at hstep
  split at hstep
  case h_1 => cases hstep; exact h
  case h_2 i rest _ => exact State.laneLaw.of_exec (s := { s with pending := rest }) h i hstep

end

end Sys2Proof.Machine

namespace Sys2Proof.Machine

section
variable {s : State}

/-! ### The completion of a lane's lookup (R101, R104, R162) -/

/-- LIMIT is raised for a value outside its limits that is delivered (R45, R101). -/
def State.limitTold (s : State) (l : Lookup) : State :=
  let r := lookupResult l s.slot
  if (r.flags.low = true ∨ r.flags.high = true) ∧ l.drop = false then
    s.setReasons l.channel (s.reasonsOf l.channel ||| limitBit)
  else s

/-- A lane's completion raises LIMIT, then queues the result (R101). -/
theorem State.laneTold_eq (s : State) (l : Lookup) (n : LaneIdx) :
    s.laneTold l n = (s.limitTold l).setLane n (s.laneAfter l n) := by
  have hraise : ((lookupResult l s.slot).limitFlagged && !l.drop) = true ↔
      ((lookupResult l s.slot).flags.low = true ∨ (lookupResult l s.slot).flags.high = true) ∧ l.drop = false := by
    simp [Result.limitFlagged]
  unfold State.laneTold State.limitTold
  simp only [hraise]
  rfl

/-- An awake completion of a lane's lookup tells the lane and ends the lookup (R101). -/
theorem exec_laneCompletion (hh : s.held = false) {k : CtxIdx} {l : Lookup} {n : LaneIdx} (hk : s.context k = some l)
    (hr : l.requester = .lane n) : exec (.laneCompletion k) s = .next ((s.laneTold l n).finish k l) := by
  refine congrArg Host.Outcome.next ((State.awake_running hh _).trans ?_)
  simp only [State.laneCompletion, hk, hr, State.completeLane_eq]

/-- Settles O25: the lane is told, then its lookup ends with and without a slot. -/
theorem laneCompletionDeliversItsResult : Obligations.LaneCompletionDeliversItsResult := by
  intro n k l s hh hdrain hk hr r lane raised
  have htold : s.laneTold l n = raised.setLane n lane := s.laneTold_eq l n
  obtain ⟨reasons, hframe⟩ := s.laneTold_frame l n
  have hrun : exec (.laneCompletion k) s = .next ((s.laneTold l n).endLookup k l) := by
    rw [exec_laneCompletion hh hk hr, State.finish_goes_on l]
    rw [hframe]
    exact hdrain
  refine ⟨fun hp => hrun.trans ?_, fun i hp => hrun.trans ?_⟩
  · rw [State.endLookup_unpinned hp, htold]
  · rw [State.endLookup_pinned hp, ← htold, hframe]
    rfl

/-! ### The start of a load and its table clear (R161 to R163) -/

/-- Where nothing is pinned and nothing is in flight, a load begins with its table clear (R103, R162, R163). -/
theorem State.startLoad_clears (hp : ∀ i, (s.slot i).pins = 0) (hk : ∀ k, s.context k = none) :
    s.startLoad = { s.cleared with hold := true } :=
  State.endDrain_clears (l := { stage := .drain, installed := 0, lost := 0 }) rfl rfl hp hk

/-- Elsewhere a load begins with its drain (R103, R161). -/
theorem State.startLoad_drains (h : (∃ i, (s.slot i).pins ≠ 0) ∨ ∃ k, s.context k ≠ none) :
    s.startLoad = { s with hold := true, ctl := .loading { stage := .drain, installed := 0, lost := 0 } } :=
  State.endDrain_waits h

/-- Settles O4: nothing is pinned or in flight, and the port is free. -/
theorem bootLoadBegins : Obligations.BootLoadBegins := by
  intro csLow s hh hp hk hport
  refine congrArg Host.Outcome.next ((if_pos hh).trans ?_)
  refine (State.startLoad_clears
    (s := { s with held := false, receiver := if csLow then .awaitHigh else .idle }) hp hk).trans ?_
  simp only [State.cleared, State.portWithFirstRead, hport]

/-- Reload is refused while an operation is in progress (R161). -/
theorem reload_busy (h : s.ctl ≠ .idle) : reload s = .refuse s .storeBusy := by
  have hidle : s.isIdle = false := by simpa [State.isIdle] using h
  simp [reload, hidle]

/-- Reload is refused while an edit entry is open (R161). -/
theorem reload_editOpen (h : s.ctl = .idle) (he : s.edits ≠ []) : reload s = .refuse s .editOpen := by
  simp [reload, (s.isIdle_iff).2 h, he]

/-- Elsewhere Reload begins a load (R161). -/
theorem reload_accepted (h : s.ctl = .idle) (he : s.edits = []) :
    reload s = { state := s.startLoad, status := .accepted, payload := [] } := by
  simp [reload, (s.isIdle_iff).2 h, he]

/-- A completion that leaves no slot pinned and no lookup in flight ends the drain with the table clear: of what the end
of its lookup did, the clear leaves the free context alone (R103, R162, R163). -/
theorem State.finish_clears {k : CtxIdx} {l : Lookup} {v : LoadState} (hv : s.ctl = .loading v) (hd : v.stage = .drain)
    (halone : ∀ j, j ≠ k → s.context j = none) (hpins : ∀ i, (s.slot i).pins = if l.pinned = some i then 1 else 0) :
    s.finish k l = s.cleared.setContext k none := by
  obtain ⟨hctl, hother⟩ := s.endLookup_frame k l
  have hcontext (j : CtxIdx) : (s.endLookup k l).context j = none := by
    by_cases hj : j = k
    · subst hj
      rw [State.endLookup_eq]
      exact State.context_setContext_same s j none
    · rw [hother j hj]
      exact halone j hj
  have hunpinned (i : SlotIdx) : ((s.endLookup k l).slot i).pins = 0 := by
    cases hl : l.pinned with
    | none =>
      rw [State.endLookup_unpinned hl]
      exact (hpins i).trans (by simp [hl])
    | some j =>
      rw [State.endLookup_pinned hl]
      show ((s.setSlot j (s.slot j).unpinned).slot i).pins = 0
      by_cases hi : i = j
      · subst hi
        have hone : (s.slot i).pins = 1 := (hpins i).trans (if_pos hl)
        rw [State.slot_setSlot_same, Slot.unpinned]
        split
        · rfl
        · simp [hone]
      · rw [State.slot_setSlot_other _ _ _ _ hi, hpins i, hl, if_neg fun e => hi (Option.some.inj e).symm]
  rw [State.finish_eq, State.endDrain_clears (hctl.trans hv) hd hunpinned hcontext, State.endLookup_eq]
  rfl

/-- Settles O44: Reload's checks in order, then what waits for the drain and what ends it. -/
theorem reloadAndTableClear : Obligations.ReloadAndTableClear := by
  intro s
  refine ⟨fun hears => ?_, fun hh v hv hd => ?_⟩
  · refine ⟨fun hc => ?_, fun hc he => ?_, fun hc he => ⟨fun hwaits => ?_, fun hp hk => ?_⟩⟩
    · exact exec_answered rfl hears (reload_busy (s := s.count) hc)
    · exact exec_answered rfl hears (reload_editOpen (s := s.count) hc he)
    · refine exec_answered rfl hears ((reload_accepted (s := s.count) hc he).trans ?_)
      rw [State.startLoad_drains (s := s.count) hwaits]
      rfl
    · refine exec_answered rfl hears ((reload_accepted (s := s.count) hc he).trans ?_)
      rw [State.startLoad_clears (s := s.count) hp hk]
      rfl
  · have hclear : exec .tableClear s = .next s.endDrain := congrArg Host.Outcome.next (State.awake_running hh _)
    refine ⟨fun hp hk => ?_, fun hwaits => ?_, fun k l hk halone hpins => ⟨fun n hn => ?_, fun hhost hdrop => ?_⟩⟩
    · rw [hclear, State.endDrain_clears hv hd hp hk]
    · rw [hclear, State.endDrain_waits hwaits]
    · obtain ⟨reasons, htold⟩ := s.laneTold_frame l n
      rw [exec_laneCompletion hh hk hn, htold,
        State.finish_clears (s := { s.setLane n (s.laneAfter l n) with reasons := reasons }) hv hd halone hpins]
      rfl
    · refine congrArg Host.Outcome.next ((State.awake_running hh _).trans ?_)
      simp only [State.probeCompletion, hk, hhost, State.completeProbe, hdrop, if_true]
      exact State.finish_clears hv hd halone hpins

/-! ### The lanes' queues and the output lines (R90, R92, R93, R133, R205) -/

/-- A lane replaced by itself. -/
theorem State.setLane_self (s : State) (n : LaneIdx) : s.setLane n (s.lane n) = s := by
  have h : s.lanes.set n.val (s.lane n) n.isLt = s.lanes := Vector.set_getElem_self n.isLt
  unfold State.setLane
  rw [h]

/-- A lane word's three fields (R205). -/
theorem requestOfWord_append (channel tag : Byte) (raw : Half) :
    requestOfWord (channel ++ raw ++ tag) = { channel := channel.toFin, raw, tag } := by
  have hchannel : (channel ++ raw ++ tag).extractLsb' 24 8 = channel :=
    (BitVec.extractLsb'_append_eq_of_le (by decide)).trans BitVec.extractLsb'_append_eq_left
  have hraw : (channel ++ raw ++ tag).extractLsb' 8 16 = raw :=
    (BitVec.extractLsb'_append_eq_of_le (by decide)).trans BitVec.extractLsb'_append_eq_right
  have htag : (channel ++ raw ++ tag).extractLsb' 0 8 = tag := BitVec.extractLsb'_append_eq_right
  rw [requestOfWord, hchannel, hraw, htag]
  rfl

/-- Where ready is asserted (R90; log entry 12). -/
theorem State.laneReady_iff (s : State) (n : LaneIdx) :
    s.laneReady n = true ↔ s.held = false ∧ s.control.laneEnable.get n = true ∧ (s.lane n).requests.length < 8 := by
  simp only [State.laneReady, Bool.and_eq_true, Bool.not_eq_true', decide_eq_true_iff, and_assoc]
  rfl

/-- Valid stands while a result is queued (R92). -/
theorem State.laneValid_iff (s : State) (n : LaneIdx) : s.laneValid n = true ↔ (s.lane n).results ≠ [] := by
  simp [State.laneValid]

/-- Settles O22: ready decides the arrival, and the result queue the take. -/
theorem laneQueuesAreFifo : Obligations.LaneQueuesAreFifo := by
  intro n s
  refine ⟨fun channel tag raw hh he hn => ?_, fun w hnot => ?_, fun r rest hr => ?_, fun hr => ?_⟩
  · refine congrArg Host.Outcome.next ((if_pos ((s.laneReady_iff n).2 ⟨hh, he, hn⟩)).trans ?_)
    rw [requestOfWord_append]
  · refine congrArg Host.Outcome.next (if_neg fun hready => ?_)
    obtain ⟨-, he, hn⟩ := (s.laneReady_iff n).1 hready
    obtain h | h := hnot
    · simp [he] at h
    · omega
  · refine congrArg Host.Outcome.next ?_
    rw [State.takeResult, hr]
    rfl
  · refine congrArg Host.Outcome.next ?_
    rw [State.takeResult, hr, List.tail_nil, ← hr]
    exact s.setLane_self n

/-- Two sets of bits meet where some bit is in both. -/
theorem and_ne_zero_iff {w : Nat} (a b : BitVec w) :
    a &&& b ≠ 0#w ↔ ∃ i : Fin w, a.getLsbD i = true ∧ b.getLsbD i = true := by
  have bit (i : Fin w) : (a &&& b).getLsbD i = true ↔ a.getLsbD i = true ∧ b.getLsbD i = true := by
    rw [BitVec.getLsbD_and, Bool.and_eq_true]
  simp only [← bit]
  constructor
  · intro h
    by_contra hnone
    refine h (BitVec.eq_of_getLsbD_eq fun i hi => ?_)
    rw [BitVec.getLsbD_zero]
    exact Bool.eq_false_iff.2 fun hbit => hnone ⟨⟨i, hi⟩, hbit⟩
  · rintro ⟨i, hi⟩ hzero
    rw [hzero, BitVec.getLsbD_zero] at hi
    cases hi

/-- The level of ATTN (R133). -/
theorem State.attn_iff (s : State) :
    s.attn = true ↔
      (∃ (c : Channel) (b : Fin 5), (s.reasonsOf c).getLsbD b = true ∧ s.control.reasonMask.getLsbD b = true) ∨
        ∃ b : Fin 3, s.causes.getLsbD b = true ∧ s.control.causeMask.getLsbD b = true := by
  simp only [State.attn, Bool.or_eq_true, List.any_eq_true, List.mem_finRange, true_and, bne_iff_ne, and_ne_zero_iff]

/-- A byte comes into the lane word from below (R205). -/
def pushByte (w : BitVec 72) (b : Byte) : BitVec 72 := (w <<< 8) ||| b.zeroExtend 72

/-- A byte pushed into a word stands below the bits that were there. -/
theorem pushByte_setWidth {m : Nat} (x : BitVec m) (b : Byte) : pushByte (x.setWidth 72) b = (x ++ b).setWidth 72 := by
  refine BitVec.eq_of_getLsbD_eq fun i hi => ?_
  by_cases h : i < 8
  · simp [pushByte, BitVec.getLsbD_append, h, hi]
  · simp [pushByte, BitVec.getLsbD_append, h, hi, BitVec.getLsbD_of_ge b i (by omega)]

/-- So do the bytes of a 2-byte item. -/
theorem pushBytes_be16 {m : Nat} (x : BitVec m) (v : Half) :
    (be16 v).foldl pushByte (x.setWidth 72) = (x ++ v).setWidth 72 := by
  have hv : v.extractLsb' 8 8 ++ v.extractLsb' 0 8 = v := BitVec.extractLsb'_append_extractLsb'
  simp only [be16, List.foldl_cons, List.foldl_nil, pushByte_setWidth]
  rw [BitVec.append_assoc, hv, BitVec.setWidth_cast]

/-- So do the bytes of a 3-byte item. -/
theorem pushBytes_be24 {m : Nat} (x : BitVec m) (v : Val24) :
    (be24 v).foldl pushByte (x.setWidth 72) = (x ++ v).setWidth 72 := by
  have hlow : v.extractLsb' 8 8 ++ v.extractLsb' 0 8 = v.extractLsb' 0 16 :=
    BitVec.extractLsb'_append_extractLsb'_eq_extractLsb' rfl
  have hv : v.extractLsb' 16 8 ++ v.extractLsb' 0 16 = v := BitVec.extractLsb'_append_extractLsb'
  simp only [be24, List.foldl_cons, List.foldl_nil, pushByte_setWidth]
  rw [BitVec.append_assoc, hlow, BitVec.setWidth_cast, BitVec.append_assoc, hv, BitVec.setWidth_cast]

/-- The nine bytes of a lane word, the first one highest (R205). -/
theorem resultWord_eq (r : Result) :
    resultWord r =
      r.tag ++ BitVec.ofNat 8 r.channel.val ++ r.revision ++ r.value ++ flagsByte r.flags ++ qualityByte r := by
  have htag : pushByte 0#72 r.tag = r.tag.setWidth 72 := by simp [pushByte]
  have hbytes : resultWord r = (resultBytes r).foldl pushByte 0#72 := rfl
  simp only [hbytes, resultBytes, List.foldl_append, List.foldl_cons, List.foldl_nil, htag, pushByte_setWidth,
    pushBytes_be16, pushBytes_be24]
  exact BitVec.setWidth_eq _

/-- A lane's result-ready line (R93). -/
theorem State.resultReady_iff {n : LaneIdx} (h : 1 ≤ (s.control.threshold.get n).toNat) :
    s.resultReady n = true ↔ (s.control.threshold.get n).toNat ≤ (s.lane n).results.length := by
  simp only [State.resultReady, Bool.and_eq_true, s.laneValid_iff, decide_eq_true_eq, and_iff_right_iff_imp]
  intro hle hnil
  rw [hnil, List.length_nil] at hle
  omega

/-- Settles O37. -/
theorem outputLinesFollowTheState : Obligations.OutputLinesFollowTheState := by
  intro s
  refine ⟨s.attn_iff, fun n => ⟨s.laneReady_iff n, s.laneValid_iff n, fun r rest hr => ?_, State.resultReady_iff⟩⟩
  intro flags quality
  have hflags : flags = flagsByte r.flags := (flagsByte_eq_add r.flags).symm
  have hquality : quality = qualityByte r := by
    rw [qualityByte_eq_add]
    rfl
  rw [State.laneWord, hr, List.head?_cons, Option.map_some, resultWord_eq, hflags, hquality]

end

end Sys2Proof.Machine

namespace Sys2Proof.Machine

section
variable {s : State}

/-! ### Frames while a probe is pending (R106, R190, R194) -/

/-- A command other than Restart is a frame at the port (R191). -/
theorem exec_command_takeFrame {i : Instr} (hi : i.isCommand = true) (hr : i ≠ .restart) (s : State) :
    ∃ k run, exec i s = .next (s.takeFrame k run) := by
  cases i
  case restart => exact absurd rfl hr
  case openEdit | setFields | setLabel | putPoints | trimPoints | dropEdit | abandon | commit | readEditSet | probe
      | readMapEntry | readRecord | readPoints | setTime | readAttention | clearReasons | clearCauses | save | stopSave
      | reload | setControl | readControl | readStatus | readIdentity => exact ⟨_, _, rfl⟩
  all_goals cases hi

/-- The dispatcher hands a command to its row (section 11.3). -/
theorem runCommand_eq_exec {i : Instr} (hi : i.isCommand = true) (s : State) : runCommand i s = exec i s := by
  cases i
  case openEdit | setFields | setLabel | putPoints | trimPoints | dropEdit | abandon | commit | readEditSet | probe
      | readMapEntry | readRecord | readPoints | setTime | readAttention | clearReasons | clearCauses | save | stopSave
      | reload | setControl | readControl | readStatus | readIdentity | restart => rfl
  all_goals cases hi

/-- What a payload is read as is the command of its frame's code (R189, R204). -/
theorem encodePayload_of_decode {k : CommandCode} {p : List Byte} {i : Instr} (h : decodePayload k p = some i) :
    ∃ q, encodePayload i = some (k, q) := by
  cases k
  case setLabel =>
    obtain _ | ⟨c, _ | ⟨n, label⟩⟩ := p
    · cases h
    · cases h
    · obtain ⟨-, hi⟩ := Option.ite_none_right_eq_some.1 h
      cases hi
      exact ⟨_, rfl⟩
  case putPoints =>
    obtain _ | ⟨c, _ | ⟨start, _ | ⟨n, points⟩⟩⟩ := p
    · cases h
    · cases h
    · cases h
    · obtain ⟨-, hi⟩ := Option.ite_none_right_eq_some.1 h
      cases hi
      exact ⟨_, rfl⟩
  case commit | abandon | save | stopSave | reload | readControl | readStatus | readIdentity | restart =>
    rcases p with _ | ⟨_, _⟩ <;> cases h
    exact ⟨_, rfl⟩
  case dropEdit | readEditSet | readMapEntry | readAttention | clearCauses =>
    rcases p with _ | ⟨_, _ | ⟨_, _⟩⟩ <;> cases h
    exact ⟨_, rfl⟩
  case openEdit | trimPoints | readRecord | clearReasons =>
    rcases p with _ | ⟨_, _ | ⟨_, _ | ⟨_, _⟩⟩⟩ <;> cases h
    exact ⟨_, rfl⟩
  case probe | readPoints | setTime =>
    rcases p with _ | ⟨_, _ | ⟨_, _ | ⟨_, _ | ⟨_, _ | ⟨_, _⟩⟩⟩⟩⟩ <;> cases h
    exact ⟨_, rfl⟩
  case setControl =>
    iterate 15
      obtain _ | ⟨_, p⟩ := p
      · cases h
    obtain _ | ⟨_, p⟩ := p
    · cases h
      exact ⟨_, rfl⟩
    · cases h
  case setFields =>
    iterate 16
      obtain _ | ⟨_, p⟩ := p
      · cases h
    obtain _ | ⟨_, p⟩ := p
    · cases h
      exact ⟨_, rfl⟩
    · cases h

/-- The port is open out of reset once chip select has been high (R202). -/
theorem State.portOpen_of (hh : s.held = false) (hr : s.receiver = .idle) : s.portOpen = true := by
  simp [State.portOpen, hh, hr]

/-- A frame that fails its checks is refused while a probe is pending (R190, R194). -/
theorem State.takeFrameError_pending (ho : s.portOpen = true) (hp : s.probe ≠ .none) (code : Option Byte)
    (e : FrameError) : s.takeFrameError code e = s.refuseFrame := by
  simp [State.takeFrameError, ho, State.probePending, hp]

/-- So is a frame of a wrong length that is no Restart (R191, R194). -/
theorem State.takeBadLength_pending (ho : s.portOpen = true) (hp : s.probe ≠ .none) {k : CommandCode}
    (hk : k ≠ .restart) : s.takeBadLength k = s.refuseFrame := by
  unfold State.takeBadLength
  rw [if_neg fun h => hk h.1]
  exact State.takeFrame_pending ho hp k _

/-- So is every command but Restart (R194). -/
theorem exec_command_pending (ho : s.portOpen = true) (hp : s.probe ≠ .none) {i : Instr} (hi : i.isCommand = true)
    (hr : i ≠ .restart) : exec i s = .next s.refuseFrame := by
  obtain ⟨k, run, h⟩ := exec_command_takeFrame hi hr s
  rw [h, State.takeFrame_pending ho hp]

/-- So is whatever frame a command write carries, but Restart (R189, R194). -/
theorem State.commandWrite_pending (ho : s.portOpen = true) (hp : s.probe ≠ .none) {bytes : List Byte}
    (hb : ∀ p, checkFrame bytes ≠ .good .restart p) :
    s.commandWrite bytes = .next (State.refuseFrame { s with sdo := List.replicate (bytes.length + 1) 0#8 }) := by
  unfold State.commandWrite
  have ho : State.portOpen { s with sdo := List.replicate (bytes.length + 1) 0#8 } = true := ho
  simp only
  split
  case h_1 code e _ => exact congrArg Host.Outcome.next (State.takeFrameError_pending ho hp code e)
  case h_2 k payload hgood =>
    have hk : k ≠ .restart := fun e => hb payload (e ▸ hgood)
    split
    case h_1 => exact congrArg Host.Outcome.next (State.takeBadLength_pending ho hp hk)
    case h_2 i hi =>
      obtain ⟨q, hq⟩ := encodePayload_of_decode hi
      have hcommand : i.isCommand = true := by simp [Instr.isCommand, hq]
      have hrestart : i ≠ .restart := by
        rintro rfl
        cases hq
        exact hk rfl
      rw [runCommand_eq_exec hcommand]
      exact exec_command_pending ho hp hcommand hrestart

/-- Settles O9: the frame is refused, whatever it carries. -/
theorem pendingProbeRefusesFrames : Obligations.PendingProbeRefusesFrames := by
  intro s hh hr hp
  have ho := State.portOpen_of hh hr
  refine ⟨fun i hi hrestart => exec_command_pending ho hp hi hrestart,
    fun code e => congrArg Host.Outcome.next (State.takeFrameError_pending ho hp code e), fun bytes hb => ?_⟩
  exact (if_pos ho).trans (State.commandWrite_pending ho hp hb)

/-! ### Probe and its grant (R105 to R107) -/

/-- No other byte than 00h and 01h names a record (R204). -/
theorem whichOfCode_none {b : Byte} (h : 1 < b.toNat) : whichOfCode b = none := by
  have other (k : Byte) (hk : k.toNat ≤ 1) : b ≠ k := by
    rintro rfl
    omega
  simp [whichOfCode, other 0#8 (by decide), other 1#8 (by decide)]

/-- A staged list that can be probed (R105). -/
theorem probeReady_iff (c : Content) :
    probeReady c = true ↔ 2 ≤ c.points.length ∧ ∀ (j : Nat) (p q : Point), c.points[j]? = some p →
      c.points[j + 1]? = some q → readX c.format p.x < readX c.format q.x := by
  rw [probeReady, Bool.and_eq_true, decide_eq_true_iff, contentOrdered_iff]

section
variable {c : Channel} {raw : Half} (hl : s.isLoading = false)
include hl

/-- A selector that names no record is refused (R105). -/
theorem probe_badParam {which : Byte} (h : 1 < which.toNat) : probe c raw which s = .refuse s .badParam := by
  rw [probe, unlessLoading_running hl]
  simp only [whichOfCode_none h]

/-- A probe of the ACTIVE record is accepted (R105, R106). -/
theorem probe_active :
    probe c raw 0#8 s = s.acceptProbe { channel := c, raw, which := .active, staged := none } := by
  rw [probe, unlessLoading_running hl]
  rfl

/-- A STAGED probe of a channel without an entry is refused (R105). -/
theorem probe_notInEdit (he : s.findEdit c = none) : probe c raw 1#8 s = .refuse s .notInEdit := by
  rw [probe, unlessLoading_running hl]
  simp only [show whichOfCode 1#8 = some .staged from rfl, he]

/-- So is one of an entry without a slot (R105). -/
theorem probe_wrongState {e : Entry} (he : s.findEdit c = some e) (hi : e.slot = none) :
    probe c raw 1#8 s = .refuse s .wrongState := by
  rw [probe, unlessLoading_running hl]
  simp only [show whichOfCode 1#8 = some .staged from rfl, he, hi]

/-- Of an entry with a slot the staged list decides (R105, R106). -/
theorem probe_staged {e : Entry} {i : SlotIdx} (he : s.findEdit c = some e) (hi : e.slot = some i) :
    probe c raw 1#8 s =
      if probeReady (s.slot i).content then s.acceptProbe { channel := c, raw, which := .staged, staged := some i }
      else .refuse s .notReady := by
  rw [probe, unlessLoading_running hl]
  simp only [show whichOfCode 1#8 = some .staged from rfl, he, hi]

end

/-- Where the host is next, the waiting probe is granted (R97, R107). -/
theorem exec_probeGrant (hh : s.held = false) {k : CtxIdx} (hg : s.grants 4 k) :
    exec .probeGrant s = .next (s.grantProbe k) := by
  refine congrArg Host.Outcome.next ((State.awake_running hh _).trans ?_)
  simp only [State.probeGrant, State.selected_of_grants hg]
  rfl

/-- A waiting ACTIVE probe reads the map (R38, R107). -/
theorem State.grantProbe_active {k : CtxIdx} {q : ProbeRequest} (hq : s.probe = .waiting q) (hw : q.which = .active) :
    s.grantProbe k =
      s.beginProbe k q (some (s.snapshot q.channel).1) (s.snapshot q.channel).2.1 (s.snapshot q.channel).2.2 := by
  simp only [State.grantProbe, hq, hw]

/-- A waiting STAGED probe reads the slot it was accepted for, while its entry names it (R107). -/
theorem State.grantProbe_staged {k : CtxIdx} {q : ProbeRequest} {e : Entry} {i : SlotIdx} (hq : s.probe = .waiting q)
    (hw : q.which = .staged) (he : s.findEdit q.channel = some e) (hi : e.slot = some i) (hs : q.staged = some i) :
    s.grantProbe k = s.beginProbe k q none 0#16 (some i) := by
  simp only [State.grantProbe, hq, hw, State.stillStaged, he, hs, hi, if_true]

/-- A waiting STAGED probe whose entry is gone is withdrawn (R107; log entry 26). -/
theorem State.grantProbe_withdrawn {k : CtxIdx} {q : ProbeRequest} (hq : s.probe = .waiting q) (hw : q.which = .staged)
    (he : s.findEdit q.channel = none) :
    s.grantProbe k =
      { s with probe := .none, response := { s.response with status := .notInEdit, payload := [] } } := by
  simp only [State.grantProbe, hq, hw, State.stillStaged, he]

/-- Settles O24: the checks in their order, then the grant by what the probe reads. -/
theorem probeIsAnsweredAndGranted : Obligations.ProbeIsAnsweredAndGranted := by
  refine ⟨fun c raw which s hears => ?_, fun k q s hh hg hq => ?_⟩
  · intro refused
    have answered {t : State} {st : Status}
        (h : probe c raw which s.count = { state := t.count, status := st, payload := [] }) :
        exec (.probe c raw which) s = .next (t.answered .probe st []) := exec_answered rfl hears h
    refine ⟨fun hl => answered (unlessLoading_loading (s := s.count) hl _), fun hl => ⟨fun hw => ?_, ?_, ?_⟩⟩
    · exact answered (probe_badParam (s := s.count) hl hw)
    · rintro rfl
      exact answered (probe_active (s := s.count) hl)
    · rintro rfl
      refine ⟨fun he => answered (probe_notInEdit (s := s.count) hl he),
        fun e he => ⟨fun hi => answered (probe_wrongState (s := s.count) hl he hi), fun i hi => ?_⟩⟩
      intro r ready
      have hready : probeReady (s.count.slot i).content = true ↔ ready := probeReady_iff _
      have staged := probe_staged (s := s.count) (raw := raw) hl he hi
      exact ⟨fun hn => answered (staged.trans (if_neg (mt hready.1 hn))),
        fun hr => answered (staged.trans (if_pos (hready.2 hr)))⟩
  · intro granted pin
    rw [exec_probeGrant hh hg]
    refine ⟨fun hw => ?_, fun hw => ⟨fun e i he hi hs => ?_, fun he => ?_⟩⟩
    · rw [State.grantProbe_active hq hw]
      refine ⟨fun i hb => ?_, fun hb => ?_⟩
      · rw [State.snapshot_bound hb, hb]
        rfl
      · rw [State.snapshot_not_bound hb]
        rfl
    · rw [State.grantProbe_staged hq hw he hi hs]
      rfl
    · rw [State.grantProbe_withdrawn hq hw he]

end

end Sys2Proof.Machine

namespace Sys2Proof.Machine

section
variable {s : State}

/-! ### A tick that is no second and no silence (R112, R143) -/

/-- The state as such a tick's scrub monitor finds it, with the millisecond and the silence timer counted (R112,
R143). -/
def State.counted (s : State) : State :=
  { s with msCount := s.msCount + 1, port := s.port.map fun t => { t with ticks := t.ticks + 1 } }

/-- A tick that is no second and no silence is two counts, then the scrub monitor's part (R112, R143, R174). -/
theorem State.tick_counted (hh : s.held = false) (hms : s.msCount < 999) (hp : ∀ t ∈ s.port, t.ticks < 24)
    (took : Bool) : s.tick took = s.counted.scrubTick := by
  have htime : s.timeTick = { s with msCount := s.msCount + 1 } :=
    if_neg (by simp only [State.secondDue, decide_eq_true_eq]; omega)
  rw [State.tick, State.awake_running hh, htime, State.portTick_quiet (s := { s with msCount := s.msCount + 1 }) hp]
  rfl

/-- Settles O30: a quiet tick counts in the step timer too; at a step expiry the scrub check has its three cases. -/
theorem millisecondTickAndStepExpiry : Obligations.MillisecondTickAndStepExpiry := by
  refine ⟨fun took s hh hq => ?_, fun took s hh hms hp hz hn => ?_⟩
  · obtain ⟨hms, hp, hstep⟩ := hq
    refine congrArg Host.Outcome.next ((State.tick_counted hh hms hp took).trans ?_)
    exact State.scrubTick_quiet (s := s.counted) hstep
  · intro ticked
    have hdue : s.stepDue = true := by simp [State.stepDue, hz, hn]
    have expiry : exec (.stepExpiry took) s = .next s.counted.scrubTick :=
      congrArg Host.Outcome.next ((if_pos hdue).trans (State.tick_counted hh hms hp took))
    refine ⟨congrArg Host.Outcome.next (if_pos hdue), fun hno => ?_, fun d => ?_⟩
    · rw [expiry, State.scrubTick_step (s := s.counted) hz hn]
      exact congrArg Host.Outcome.next (State.scrubCheck_none hno)
    · intro i ha hb
      refine ⟨fun hcrc => ?_, fun hcrc hl c hc => ?_⟩
      · rw [expiry, State.scrubTick_sound (s := s.counted) hz hn ha hb hcrc]
        rfl
      · rw [expiry, State.scrubTick_mismatch (s := s.counted) hz hn ha hb hcrc hl hc]
        rfl

/-! ### Set Time (R114) -/

/-- The state as the sweep of a Set Time finds it (R114). -/
def State.timeSet (s : State) (now : Word) : State := { s with partTime := now, msCount := 0 }

/-- The slots that a sweep at this part time flags, in ascending order (R116). -/
def State.fallingSlots (s : State) (now : Word) : List SlotIdx :=
  (List.finRange 128).filter fun i => (s.slot i).falls now

/-- The count that Set Time reports is that of the slots flagged (R114). -/
theorem State.fallingSlots_length (s : State) : (s.fallingSlots s.partTime).length = s.fallingCount :=
  List.countP_eq_length_filter.symm

/-- Settles O32: the answer is the swept state's, and the sweep's laws say what it flags and raises. -/
theorem setTimeSweeps : Obligations.SetTimeSweeps := by
  intro now s hears due
  have hdue (i : SlotIdx) : due i ↔ (s.slot i).falls now = true := (Slot.falls_iff _ _).symm
  refine ⟨(s.timeSet now).sweep, s.fallingSlots now, exec_answered rfl hears ?_,
    (List.nodup_finRange 128).filter _, fun i => ?_, fun i hd => ?_, fun i hd => ?_, fun c i hb hd => ?_, fun c h => ?_⟩
  · rw [show (s.fallingSlots now).length = (s.timeSet now).fallingCount from (s.timeSet now).fallingSlots_length]
    rfl
  · simp [State.fallingSlots, hdue]
  · exact ((s.timeSet now).sweep_slot i).trans (if_pos ((hdue i).1 hd))
  · exact ((s.timeSet now).sweep_slot i).trans (if_neg (mt (hdue i).2 hd))
  · exact (State.sweep_reasons_bound (s := s.timeSet now) hb).trans (if_pos ((hdue i).1 hd))
  · by_cases hb : ∃ i, (s.entry c).binding = .bound i
    · obtain ⟨i, hb⟩ := hb
      exact (State.sweep_reasons_bound (s := s.timeSet now) hb).trans (if_neg (mt (hdue i).2 (h i hb)))
    · exact State.sweep_reasons_unbound (s := s.timeSet now) fun i hi => hb ⟨i, hi⟩

end

end Sys2Proof.Machine

namespace Sys2Proof.Machine

section
variable {s : State}

/-! ### What an operation does at a silence leaves the step timer alone (R143, R174) -/

/-- The state with this count in the step timer (R174). -/
def State.stepTimerAt (s : State) (n : Nat) : State := { s with scrubCount := n }

/-- The step timer's count is neither read nor written, and the settings stay (R174). -/
def sparesStepTimer (f : State → State) : Prop :=
  ∀ s : State, (f s).control = s.control ∧ ∀ n, f (s.stepTimerAt n) = (f s).stepTimerAt n

/-- The step timer may count a tick that is no step expiry before such an event or after it (R174). -/
theorem sparesStepTimer.scrubTick {f : State → State} (hf : sparesStepTimer f)
    (h : s.control.step = 0#8 ∨ s.scrubCount + 1 < s.control.step.toNat) :
    (f s).scrubTick = f (s.stepTimerAt (if s.control.step = 0#8 then 0 else s.scrubCount + 1)) := by
  obtain ⟨hcontrol, hcount⟩ := hf s
  have hkept : (f s).scrubCount = s.scrubCount := (congrArg State.scrubCount (hcount s.scrubCount) :)
  exact (State.scrubTick_after hkept hcontrol h).trans (hcount _).symm

/-- Two such events in a row spare the step timer. -/
theorem sparesStepTimer.comp {f g : State → State} (hg : sparesStepTimer g) (hf : sparesStepTimer f) :
    sparesStepTimer fun s => g (f s) := fun s =>
  ⟨(hg (f s)).1.trans (hf s).1, fun n => (congrArg g ((hf s).2 n)).trans ((hg (f s)).2 n)⟩

/-- A repair's start spares the step timer (R146, R181). -/
theorem startRepair_sparesStepTimer : sparesStepTimer State.startRepair := fun s => by
  simp only [State.startRepair_eq]
  exact ⟨s.withRepair_control, fun n => (s.withRepair_scrub n).symm⟩

/-- The end of a load spares the step timer (R146, R171). -/
theorem endLoad_sparesStepTimer (o : LoadOutcome) (epoch : Word) : sparesStepTimer fun s => s.endLoad o epoch :=
  startRepair_sparesStepTimer.comp fun _ => ⟨rfl, fun _ => rfl⟩

/-- The end of a repair spares the step timer (R146, R186). -/
theorem endRepair_sparesStepTimer (o : RepairOutcome) : sparesStepTimer fun s => s.endRepair o :=
  startRepair_sparesStepTimer.comp fun _ => ⟨rfl, fun _ => rfl⟩

/-- A load's walk that goes on, or ends, spares the step timer (R165, R171). -/
theorem walkOn_sparesStepTimer (area : Area) (h : Header) (channels : List Channel) (offset installed lost : Nat) :
    sparesStepTimer fun s => s.walkOn area h channels offset installed lost := by
  cases channels with
  | nil => exact endLoad_sparesStepTimer _ _
  | cons c later => exact fun _ => ⟨rfl, fun _ => rfl⟩

/-- A repair's walk that goes on, or ends, spares the step timer (R183). -/
theorem repairOn_sparesStepTimer (r : RepairState) (area : Area) (h : Header) (channels : List Channel) (offset : Nat) :
    sparesStepTimer fun s => s.repairOn r area h channels offset := by
  cases channels with
  | nil => exact endRepair_sparesStepTimer _
  | cons c later => exact fun _ => ⟨rfl, fun _ => rfl⟩

/-- The loss of the rest of a walk spares the step timer (R169). -/
theorem loseAll_sparesStepTimer (cs : List Channel) :
    sparesStepTimer fun s => cs.foldl (fun s c => s.markLost c 0#16) s := by
  induction cs with
  | nil => exact fun _ => ⟨rfl, fun _ => rfl⟩
  | cons c cs ih => exact ih.comp (f := fun s => s.markLost c 0#16) fun _ => ⟨rfl, fun _ => rfl⟩

/-- The end of a load that loses the rest of its walk spares the step timer (R170). -/
theorem loseRest_sparesStepTimer (w : Walk) (o : LoadOutcome) (epoch : Word) :
    sparesStepTimer fun s => (s.loseRest w).endLoad o epoch :=
  (endLoad_sparesStepTimer o epoch).comp (loseAll_sparesStepTimer (w.expected :: w.later))

/-- What follows a header of a load spares the step timer (R164). -/
theorem loadHeader_sparesStepTimer (l : LoadState) (found : Option Header) :
    sparesStepTimer fun s => s.loadHeader l found := by
  unfold State.loadHeader
  split
  case h_1 => exact fun _ => ⟨rfl, fun _ => rfl⟩
  case h_2 a _ =>
    unfold State.chooseImage
    split
    case h_1 => exact endLoad_sparesStepTimer _ _
    case h_2 => exact walkOn_sparesStepTimer _ _ _ _ _ _
  case h_3 => exact fun _ => ⟨rfl, fun _ => rfl⟩

/-- What follows a header of a repair spares the step timer (R182). -/
theorem repairHeader_sparesStepTimer (r : RepairState) (found : Option Header) :
    sparesStepTimer fun s => s.repairHeader r found := by
  unfold State.repairHeader
  split
  case h_1 => exact fun _ => ⟨rfl, fun _ => rfl⟩
  case h_2 a _ =>
    unfold State.repairChoose
    split
    case h_1 => exact endRepair_sparesStepTimer _
    case h_2 =>
      split
      case isTrue => exact repairOn_sparesStepTimer _ _ _ _ _
      case isFalse => exact endRepair_sparesStepTimer _
  case h_3 => exact fun _ => ⟨rfl, fun _ => rfl⟩

/-- The silence of a load's read spares the step timer (R164, R170). -/
theorem loadSilent_sparesStepTimer (l : LoadState) : sparesStepTimer fun s => s.loadSilent l := by
  unfold State.loadSilent
  split
  case h_1 => exact fun _ => ⟨rfl, fun _ => rfl⟩
  case h_2 => exact loadHeader_sparesStepTimer l none
  case h_3 => exact loadHeader_sparesStepTimer l none
  case h_4 => exact loseRest_sparesStepTimer _ _ _
  case h_5 => exact loseRest_sparesStepTimer _ _ _

/-- The silence of a repair's read spares the step timer (R182, R186). -/
theorem repairSilent_sparesStepTimer (r : RepairState) : sparesStepTimer fun s => s.repairSilent r := by
  unfold State.repairSilent
  split
  case h_1 => exact repairHeader_sparesStepTimer r none
  case h_2 => exact repairHeader_sparesStepTimer r none
  case h_3 => exact endRepair_sparesStepTimer _
  case h_4 => exact endRepair_sparesStepTimer _

/-- A header of a load that falls silent holds no valid image (R164). -/
theorem State.loadSilent_inHeaders {l : LoadState} (hl : l.stage.inHeaders = true) :
    s.loadSilent l = s.loadHeader l none := by
  obtain ⟨stage, installed, lost⟩ := l
  cases stage with
  | readA => rfl
  | readB => rfl
  | drain => cases hl
  | head => cases hl
  | tail => cases hl

/-- A head or a tail of a load that falls silent loses the rest of the walk (R170). -/
theorem State.loadSilent_walk {l : LoadState} {w : Walk} (hl : l.stage = .head w ∨ ∃ head, l.stage = .tail w head) :
    s.loadSilent l = (s.loseRest w).endLoad
      (.storeFault w.area w.header.generation w.header.epoch l.installed (w.lostWith l.lost)) w.header.epoch := by
  rw [State.loadSilent]
  obtain hl | ⟨head, hl⟩ := hl <;> rw [hl]

/-- A load that reads a head or a tail is in its walk (R165). -/
theorem State.loadInWalk_of {l : LoadState} {w : Walk} (hc : s.ctl = .loading l)
    (hl : l.stage = .head w ∨ ∃ head, l.stage = .tail w head) : s.loadInWalk = true := by
  obtain ⟨stage, installed, lost⟩ := l
  obtain rfl | ⟨head, rfl⟩ := hl <;> rw [State.loadInWalk, hc]

/-! ### The tick that is the silence of a load's or a repair's read (R143) -/

section
variable {p : Transfer} {n : Nat} (hsilent : s.silentTick p) (hf : p.finishing = false) (hk : p.kind = .read n)
include hsilent hf hk

/-- The tick counts, and the load is told (R143). -/
theorem State.tick_silent_load {l : LoadState} (hc : s.ctl = .loading l) (took : Bool) :
    s.tick took = s.ticked.loadSilent l := by
  obtain ⟨-, -, -, -, hstep⟩ := id hsilent
  rw [State.tick_silent_read hsilent hf hk]
  refine Eq.trans ?_ ((loadSilent_sparesStepTimer l).scrubTick
    (s := { s with msCount := s.msCount + 1, port := none }) hstep)
  rw [hc]

/-- The tick counts, and the repair is told (R143). -/
theorem State.tick_silent_repair {r : RepairState} (hc : s.ctl = .repairing r) (took : Bool) :
    s.tick took = s.ticked.repairSilent r := by
  obtain ⟨-, -, -, -, hstep⟩ := id hsilent
  rw [State.tick_silent_read hsilent hf hk]
  refine Eq.trans ?_ ((repairSilent_sparesStepTimer r).scrubTick
    (s := { s with msCount := s.msCount + 1, port := none }) hstep)
  rw [hc]

/-- LOAD_HEADER_SILENCE: the area holds no valid image (R164). -/
theorem exec_loadHeaderSilence {l : LoadState} (hc : s.ctl = .loading l) (hl : l.stage.inHeaders = true) :
    exec .loadHeaderSilence s = .next (s.ticked.loadHeader l none) := by
  have hdue : s.silenceDue false = true := hf ▸ State.silenceDue_of hsilent
  have hheaders : s.loadInHeaders = true := by rw [State.loadInHeaders, hc]; exact hl
  refine congrArg Host.Outcome.next ((if_pos (by rw [hheaders, hdue]; rfl)).trans ?_)
  rw [State.tick_silent_load hsilent hf hk hc, State.loadSilent_inHeaders hl]

/-- LOAD_WALK_SILENCE: the rest of the walk is lost (R170). -/
theorem exec_loadWalkSilence {l : LoadState} {w : Walk} (hc : s.ctl = .loading l)
    (hl : l.stage = .head w ∨ ∃ head, l.stage = .tail w head) :
    exec .loadWalkSilence s = .next ((s.ticked.loseRest w).endLoad
      (.storeFault w.area w.header.generation w.header.epoch l.installed (w.lostWith l.lost)) w.header.epoch) := by
  have hdue : s.silenceDue false = true := hf ▸ State.silenceDue_of hsilent
  refine congrArg Host.Outcome.next ((if_pos (by rw [State.loadInWalk_of hc hl, hdue]; rfl)).trans ?_)
  rw [State.tick_silent_load hsilent hf hk hc, State.loadSilent_walk hl]

/-- REPAIR_STORE_SILENCE: the repair is told (R182, R186). -/
theorem exec_repairStoreSilence {r : RepairState} (hc : s.ctl = .repairing r) :
    exec .repairStoreSilence s = .next (s.ticked.repairSilent r) := by
  have hdue : s.silenceDue false = true := hf ▸ State.silenceDue_of hsilent
  have hrepairs : s.isRepairing = true := by rw [State.isRepairing, hc]
  refine congrArg Host.Outcome.next ((if_pos (by rw [hrepairs, hdue]; rfl)).trans ?_)
  exact State.tick_silent_repair hsilent hf hk hc false

end

/-! ### The header reads of a load (R164) -/

/-- LOAD_HEADER_READ_COMPLETION: the port is free, and the area is judged by the bytes read (R164). -/
theorem exec_loadHeaderReadCompletion (hh : s.held = false) {l : LoadState} (hc : s.ctl = .loading l)
    {bytes : List Byte} (hr : s.reads bytes) (hl : l.stage.inHeaders = true) :
    exec .loadHeaderReadCompletion s = .next (State.loadHeader { s with port := none } l (parseHeader bytes)) := by
  refine congrArg Host.Outcome.next ((State.awake_running hh _).trans ?_)
  simp only [State.loadHeaderRead, hc, State.readReply_of hr, hl, if_true]

/-- After area A the read of area B is issued (R164). -/
theorem State.loadHeader_readA {l : LoadState} (hl : l.stage = .readA) (found : Option Header) :
    s.loadHeader l found =
      { s with
        ctl := .loading { l with stage := .readB found }
        port := some { address := 32768, kind := .read 64, finishing := false, ticks := 0 } } := by
  rw [State.loadHeader, hl]
  rfl

/-- Without a valid image the load ends NO_IMAGE with epoch 0 (R171). -/
theorem State.loadHeader_noImage {l : LoadState} {a found : Option Header} (hl : l.stage = .readB a)
    (hn : newest a found = none) :
    s.loadHeader l found = State.withRepair
      { s with
        ctl := .idle, hold := false, epoch := 0#32, causes := s.causes ||| 0b100#3, lastLoad := .noImage } := by
  rw [State.loadHeader, hl]
  simp only [State.chooseImage, hn]
  exact State.endLoad_eq s _ _

/-- With a valid image the walk begins at its lowest channel (R164). -/
theorem State.loadHeader_image {l : LoadState} {a found : Option Header} {area : Area} {h : Header}
    (hl : l.stage = .readB a) (hn : newest a found = some (area, h)) :
    s.loadHeader l found = s.walkOn area h h.presence 0 0 0 := by
  rw [State.loadHeader, hl]
  simp only [State.chooseImage, hn]

/-- The walk goes on with the read of the next channel's 18 head bytes (R165). -/
theorem State.walkOn_cons (area : Area) (h : Header) (c : Channel) (later : List Channel)
    (offset installed lost : Nat) :
    s.walkOn area h (c :: later) offset installed lost =
      { s with
        ctl := .loading { stage := .head { area, header := h, expected := c, later, offset }, installed, lost }
        port := some { address := area.base + 64 + offset, kind := .read 18, finishing := false, ticks := 0 } } := rfl

/-- After the last channel the load ends (R171). -/
theorem State.walkOn_nil (area : Area) (h : Header) (offset installed lost : Nat) :
    s.walkOn area h [] offset installed lost = State.withRepair
      { s with
        ctl := .idle, hold := false, epoch := h.epoch, causes := s.causes ||| 0b100#3
        lastLoad := walkOutcome area h installed lost } :=
  State.endLoad_eq s _ _

/-- Settles O45: a completion and a silence differ only in what the area is found to hold, and in the tick's counts. -/
theorem loadReadsTheHeaders : Obligations.LoadReadsTheHeaders := by
  intro l s hc judged
  have judge {event : Instr} {base : State} {found : Option Header} (hcauses : base.causes = s.causes)
      (hrun : l.stage.inHeaders = true → exec event s = .next (base.loadHeader l found)) :
      judged event base found := by
    refine ⟨fun hl => ?_, fun a hl => ?_⟩
    · rw [hrun (by rw [hl]; rfl), State.loadHeader_readA hl]
    · have hrun := hrun (by rw [hl]; rfl)
      refine ⟨fun hn => ?_, fun area h hn => ⟨fun hp => ?_, fun c later hp => ?_⟩⟩
      · rw [hrun, State.loadHeader_noImage hl hn, hcauses]
      · rw [hrun, State.loadHeader_image hl hn, hp, State.walkOn_nil, hcauses]
        rfl
      · rw [hrun, State.loadHeader_image hl hn, hp, State.walkOn_cons]
  exact ⟨fun bytes hh hr => judge rfl (exec_loadHeaderReadCompletion hh hc hr),
    fun p n hs hf hk => judge rfl (exec_loadHeaderSilence hs hf hk hc)⟩

end

end Sys2Proof.Machine

namespace Sys2Proof.Machine

section
variable {s : State}

/-! ### The channels that a broken walk loses (R166, R169, R170) -/

/-- A channel marked LOST (R169). -/
theorem State.entry_markLost (s : State) (c d : Channel) (revision : Half) :
    (s.markLost c revision).entry d = if d = c then { binding := .lost, revision } else s.entry d := by
  show (s.setEntry c { binding := .lost, revision }).entry d = _
  by_cases h : d = c
  · rw [if_pos h, h, State.entry_setEntry_same]
  · rw [if_neg h, State.entry_setEntry_other _ _ _ _ h]

/-- LOST is raised for a channel marked LOST (R169). -/
theorem State.reasonsOf_markLost (s : State) (c d : Channel) (revision : Half) :
    (s.markLost c revision).reasonsOf d = if d = c then s.reasonsOf c ||| lostBit else s.reasonsOf d := by
  show ((s.setEntry c { binding := .lost, revision }).setReasons c (s.reasonsOf c ||| lostBit)).reasonsOf d = _
  by_cases h : d = c
  · rw [if_pos h, h, State.reasonsOf_setReasons_same]
  · rw [if_neg h, State.reasonsOf_setReasons_other _ _ _ _ h, State.reasonsOf_setEntry]

/-- The loss of a list of channels leaves every other entry and every other channel's reasons (R166, R169). -/
theorem State.loseAll_lostOnly (cs : List Channel) (s : State) :
    s.lostOnly (cs.foldl (fun s c => s.markLost c 0#16) s) cs := by
  induction cs generalizing s with
  | nil => exact ⟨fun c hc => absurd hc List.not_mem_nil, fun c _ => ⟨rfl, rfl⟩⟩
  | cons d cs ih =>
    obtain ⟨hlost, hkept⟩ := ih (s.markLost d 0#16)
    refine ⟨fun c hc => ?_, fun c hc => ?_⟩
    · by_cases hmem : c ∈ cs
      · obtain ⟨hentry, hreasons⟩ := hlost c hmem
        refine ⟨hentry, hreasons.trans ?_⟩
        rw [State.reasonsOf_markLost]
        split
        case isTrue h => rw [h, lostBit, BitVec.or_assoc, BitVec.or_self]
        case isFalse => rfl
      · obtain rfl : c = d := (List.mem_cons.1 hc).resolve_right hmem
        obtain ⟨hentry, hreasons⟩ := hkept c hmem
        exact ⟨hentry.trans ((s.entry_markLost c c _).trans (if_pos rfl)),
          hreasons.trans ((s.reasonsOf_markLost c c _).trans (if_pos rfl))⟩
    · obtain ⟨hne, hmem⟩ := not_or.1 (mt List.mem_cons.2 hc)
      obtain ⟨hentry, hreasons⟩ := hkept c hmem
      exact ⟨hentry.trans ((s.entry_markLost d c _).trans (if_neg hne)),
        hreasons.trans ((s.reasonsOf_markLost d c _).trans (if_neg hne))⟩

/-- The loss of a list of channels writes the map and the reasons alone (R169). -/
theorem State.loseAll_frame (cs : List Channel) (s : State) :
    let t := cs.foldl (fun s c => s.markLost c 0#16) s
    t = { s with map := t.map, reasons := t.reasons } := by
  induction cs generalizing s with
  | nil => rfl
  | cons c cs ih => exact ih (s.markLost c 0#16)

/-- The end of a load that loses the rest of its walk (R166, R170, R171). -/
theorem State.loseRest_endLoad (s : State) (w : Walk) (o : LoadOutcome) (epoch : Word) :
    (s.loseRest w).endLoad o epoch = State.withRepair
      { s with
        map := (s.loseRest w).map, reasons := (s.loseRest w).reasons, ctl := .idle, hold := false, epoch
        causes := s.causes ||| 0b100#3, lastLoad := o } := by
  have hframe : s.loseRest w = { s with map := (s.loseRest w).map, reasons := (s.loseRest w).reasons } :=
    s.loseAll_frame (w.expected :: w.later)
  exact (congrArg (State.endLoad · o epoch) hframe).trans (State.endLoad_eq _ _ _)

/-! ### The heads of a load (R165 to R167) -/

/-- LOAD_HEAD_READ_COMPLETION: the port is free, and the head is judged (R165). -/
theorem exec_loadHeadReadCompletion (hh : s.held = false) {l : LoadState} (hc : s.ctl = .loading l) {head : List Byte}
    (hr : s.reads head) {w : Walk} (hl : l.stage = .head w) :
    exec .loadHeadReadCompletion s = .next (State.loadHead { s with port := none } l w head) := by
  refine congrArg Host.Outcome.next ((State.awake_running hh _).trans ?_)
  simp only [State.loadHeadRead, hc, State.readReply_of hr, hl]

/-- What a trusted head names (R165). -/
theorem headTrusted_iff (w : Walk) (h : RecordHead) :
    headTrusted w h = true ↔
      h.channel = w.expected ∧ h.revision ≠ 0#16 ∧
        w.offset + (18 + (h.labelLen + 5 * h.count)) ≤ w.header.bodyLength := by
  simp only [headTrusted, Bool.and_eq_true, beq_iff_eq, bne_iff_ne, decide_eq_true_eq, and_assoc]
  exact Iff.rfl

section
variable {l : LoadState} {w : Walk} {head : List Byte}

/-- A head that is not trusted ends the walk (R165, R166). -/
theorem State.loadHead_untrusted (ht : ¬ headTrusted w (decodeHead head) = true) :
    s.loadHead l w head = s.untrusted l w := if_pos (by simpa using ht)

/-- A trusted head has its tail read (R165). -/
theorem State.loadHead_tail (ht : headTrusted w (decodeHead head) = true) (hn : 0 < (decodeHead head).tailLength) :
    s.loadHead l w head =
      { s with
        ctl := .loading { l with stage := .tail w head }
        port := some { address := w.area.base + 64 + w.offset + 18, kind := .read (decodeHead head).tailLength
                       finishing := false, ticks := 0 } } :=
  (if_neg (by simpa using ht)).trans (if_neg hn.ne')

/-- A tail of 0 bytes is judged at once (R165). -/
theorem State.loadHead_noTail (ht : headTrusted w (decodeHead head) = true) (hn : (decodeHead head).tailLength = 0) :
    s.loadHead l w head = s.loadTail l w head [] := (if_neg (by simpa using ht)).trans (if_pos hn)

/-- A record whose CRC differs ends the walk (R166). -/
theorem State.loadTail_untrusted {tail : List Byte} (hcrc : imageCrc head tail ≠ (decodeHead head).crc) :
    s.loadTail l w head tail = s.untrusted l w := if_pos hcrc

/-- A record whose fields fail leaves its channel LOST under the head's revision, and the walk goes on (R167, R169). -/
theorem State.loadTail_invalid {tail : List Byte} (hcrc : imageCrc head tail = (decodeHead head).crc)
    (hv : fieldsValid head tail = false) :
    s.loadTail l w head tail =
      (s.markLost w.expected (decodeHead head).revision).walkOn w.area w.header w.later
        (w.offset + (decodeHead head).size) l.installed (l.lost + 1) :=
  (if_neg (not_not_intro hcrc)).trans (if_pos (by rw [hv]; rfl))

end

/-- A record that lists no point fails the field checks (R167). -/
theorem fieldsValid_of_no_points {head : List Byte} (h : (decodeHead head).count = 0) (tail : List Byte) :
    fieldsValid head tail = false := by simp [fieldsValid, h]

/-- Settles O46: a walk breaks at an untrusted head, at a record of no tail whose CRC differs, and at a silence. -/
theorem loadHeadsAndBrokenWalks : Obligations.LoadHeadsAndBrokenWalks := by
  intro l w s hc broken
  have hlost : w.lostWith l.lost = l.lost + 1 + w.later.length := by
    rw [Walk.lostWith, Nat.add_comm w.later.length, Nat.add_assoc]
  have breaks {event : Instr} {base : State} {outcome : Nat → LoadOutcome} (hbase : base.lostOnly = s.lostOnly)
      (hcauses : base.causes = s.causes)
      (hrun : exec event s = .next ((base.loseRest w).endLoad (outcome (w.lostWith l.lost)) w.header.epoch)) :
      broken event base outcome :=
    ⟨base.loseRest w, hbase ▸ base.loseAll_lostOnly (w.expected :: w.later), by
      rw [hrun, State.loseRest_endLoad, hcauses, hlost]⟩
  refine ⟨fun head hh hr hl => ?_, fun p n hs hf hk hl => breaks rfl rfl (exec_loadWalkSilence hs hf hk hc hl)⟩
  intro h trusted partly
  have htrusted : headTrusted w h = true ↔ trusted := headTrusted_iff w h
  have hrun := exec_loadHeadReadCompletion hh hc hr hl
  have ends (he : State.loadHead { s with port := none } l w head = State.untrusted { s with port := none } l w) :
      partly :=
    breaks rfl rfl (by rw [hrun, he]; rfl)
  refine ⟨fun ht hn => ?_, fun ht => ?_, fun ht hn => ⟨fun hcrc => ?_, fun hcrc => ?_⟩⟩
  · rw [hrun, State.loadHead_tail (htrusted.2 ht) hn]
    rfl
  · exact ends (State.loadHead_untrusted (mt htrusted.1 ht))
  · exact ends ((State.loadHead_noTail (htrusted.2 ht) hn).trans (State.loadTail_untrusted hcrc))
  · have hsize : h.size = 18 := congrArg (18 + ·) hn
    have hcount : h.count = 0 := by omega
    have hjudged := hrun.trans (congrArg Host.Outcome.next ((State.loadHead_noTail (htrusted.2 ht) hn).trans
      (State.loadTail_invalid hcrc (fieldsValid_of_no_points hcount []))))
    rw [hsize] at hjudged
    refine ⟨fun c later hw => ?_, fun hw => ?_⟩
    · rw [hjudged, hw, State.walkOn_cons]
      rfl
    · rw [hjudged, hw, State.walkOn_nil, walkOutcome, if_neg (Nat.succ_ne_zero _)]
      rfl

end

end Sys2Proof.Machine

namespace Sys2Proof.Machine

section
variable {s : State}

/-! ### The start of a repair (R146, R181) -/

/-- REPAIR_START: the repair that waits starts (R146, R181). -/
theorem exec_repairStart (hh : s.held = false) : exec .repairStart s = .next s.withRepair :=
  congrArg Host.Outcome.next ((State.awake_running hh _).trans s.startRepair_eq)

/-- REPAIR_START where no repair may start (R146). -/
theorem exec_repairStart_stays (h : s.withRepair = s) : exec .repairStart s = .next s := by
  cases hh : s.held with
  | true => exact congrArg Host.Outcome.next (State.awake_held hh _)
  | false => rw [exec_repairStart hh, h]

/-! ### The header reads of a repair (R182) -/

/-- REPAIR_HEADER_READ_COMPLETION: the port is free, and the area is judged by the bytes read (R182). -/
theorem exec_repairHeaderReadCompletion (hh : s.held = false) {r : RepairState} (hc : s.ctl = .repairing r)
    {bytes : List Byte} (hr : s.reads bytes) (hl : r.stage.inHeaders = true) :
    exec .repairHeaderReadCompletion s = .next (State.repairHeader { s with port := none } r (parseHeader bytes)) := by
  refine congrArg Host.Outcome.next ((State.awake_running hh _).trans ?_)
  simp only [State.repairHeaderRead, hc, State.readReply_of hr, hl, if_true]

section
variable {r : RepairState}

/-- A header of a repair that falls silent holds no valid image (R182). -/
theorem State.repairSilent_inHeaders (hl : r.stage.inHeaders = true) : s.repairSilent r = s.repairHeader r none := by
  obtain ⟨target, slot, stage⟩ := r
  cases stage with
  | readA => rfl
  | readB => rfl
  | head => cases hl
  | tail => cases hl

/-- A head or a tail of a repair that falls silent ends it STORE_FAULT (R186). -/
theorem State.repairSilent_walk {w : Walk} (hl : r.stage = .head w ∨ ∃ head, r.stage = .tail w head) :
    s.repairSilent r = State.withRepair { s with ctl := .idle, lastRepair := .storeFault r.target w.area } := by
  rw [← State.endRepair_eq, State.repairSilent]
  obtain hl | ⟨head, hl⟩ := hl <;> rw [hl]

/-- After area A the read of area B is issued (R182). -/
theorem State.repairHeader_readA (hl : r.stage = .readA) (found : Option Header) :
    s.repairHeader r found =
      { s with
        ctl := .repairing { r with stage := .readB found }
        port := some { address := 32768, kind := .read 64, finishing := false, ticks := 0 } } := by
  rw [State.repairHeader, hl]
  rfl

variable {a found : Option Header}

/-- Without a valid image the repair ends NOT_FOUND (R182, R186). -/
theorem State.repairHeader_noImage (hl : r.stage = .readB a) (hn : newest a found = none) :
    s.repairHeader r found = State.withRepair { s with ctl := .idle, lastRepair := .notFound r.target none } := by
  rw [State.repairHeader, hl]
  simp only [State.repairChoose, hn]
  exact State.endRepair_eq s _

/-- An image that does not mark the target ends the repair NOT_FOUND (R182, R186). -/
theorem State.repairHeader_unmarked (hl : r.stage = .readB a) {area : Area} {h : Header}
    (hn : newest a found = some (area, h)) (hm : r.target ∉ h.presence) :
    s.repairHeader r found =
      State.withRepair { s with ctl := .idle, lastRepair := .notFound r.target (some area) } := by
  rw [State.repairHeader, hl]
  simp only [State.repairChoose, hn]
  exact (if_neg (by simpa using hm)).trans (State.endRepair_eq s _)

/-- In an image that marks the target the walk begins at its lowest channel (R182). -/
theorem State.repairHeader_marked (hl : r.stage = .readB a) {area : Area} {h : Header}
    (hn : newest a found = some (area, h)) (hm : r.target ∈ h.presence) :
    s.repairHeader r found = s.repairOn r area h h.presence 0 := by
  rw [State.repairHeader, hl]
  simp only [State.repairChoose, hn]
  exact if_pos (by simpa using hm)

/-- The walk goes on with the read of the next channel's 18 head bytes (R183). -/
theorem State.repairOn_cons (r : RepairState) (area : Area) (h : Header) (c : Channel) (later : List Channel)
    (offset : Nat) :
    s.repairOn r area h (c :: later) offset =
      { s with
        ctl := .repairing { r with stage := .head { area, header := h, expected := c, later, offset } }
        port := some { address := area.base + 64 + offset, kind := .read 18, finishing := false, ticks := 0 } } := rfl

end

/-- Settles O48: the start is that of the repair which waits; a completion and a silence of a header read differ only in
what the area is found to hold, and in the tick's counts. -/
theorem repairStartsAndReadsTheHeaders : Obligations.RepairStartsAndReadsTheHeaders := by
  intro s
  refine ⟨fun c i rest hh hc hq he hb => ?_, fun h => ?_, fun r hc => ?_⟩
  · rw [exec_repairStart hh, State.withRepair_head hc hq he hb]
  · exact exec_repairStart_stays (h.elim State.withRepair_busy State.withRepair_none)
  · intro judged
    have judge {event : Instr} {base : State} {found : Option Header}
        (hrun : r.stage.inHeaders = true → exec event s = .next (base.repairHeader r found)) :
        judged event base found := by
      refine ⟨fun hl => ?_, fun a hl => ?_⟩
      · rw [hrun (by rw [hl]; rfl), State.repairHeader_readA hl]
      · have hrun := hrun (by rw [hl]; rfl)
        refine ⟨fun hn => ?_, fun area h hn => ⟨fun hm => ?_, fun hm c later hp => ?_⟩⟩
        · rw [hrun, State.repairHeader_noImage hl hn]
        · rw [hrun, State.repairHeader_unmarked hl hn hm]
        · rw [hrun, State.repairHeader_marked hl hn hm, hp, State.repairOn_cons]
    exact ⟨fun bytes hh hr => judge (exec_repairHeaderReadCompletion hh hc hr),
      fun p n hs hf hk => judge fun hl => by
        rw [exec_repairStoreSilence hs hf hk hc, State.repairSilent_inHeaders hl]⟩

/-! ### The heads of a repair (R183, R184) -/

/-- REPAIR_HEAD_READ_COMPLETION: the port is free, and the head is judged (R183). -/
theorem exec_repairHeadReadCompletion (hh : s.held = false) {r : RepairState} (hc : s.ctl = .repairing r)
    {head : List Byte} (hr : s.reads head) {w : Walk} (hl : r.stage = .head w) :
    exec .repairHeadReadCompletion s = .next (State.repairHead { s with port := none } r w head) := by
  refine congrArg Host.Outcome.next ((State.awake_running hh _).trans ?_)
  simp only [State.repairHeadRead, hc, State.readReply_of hr, hl]

section
variable {r : RepairState} {w : Walk} {head : List Byte}

/-- A head that is not the expected channel's, or runs past the body, ends the repair NOT_FOUND (R183). -/
theorem State.repairHead_unexpected
    (h : (decodeHead head).channel ≠ w.expected ∨ w.header.bodyLength < w.offset + (decodeHead head).size) :
    s.repairHead r w head =
      State.withRepair { s with ctl := .idle, lastRepair := .notFound r.target (some w.area) } :=
  (if_pos h).trans (State.endRepair_eq s _)

variable (hc : (decodeHead head).channel = w.expected)
  (hb : w.offset + (decodeHead head).size ≤ w.header.bodyLength)
include hc hb

/-- The expected head is not such a head (R183). -/
theorem not_unexpectedHead :
    ¬ ((decodeHead head).channel ≠ w.expected ∨ w.header.bodyLength < w.offset + (decodeHead head).size) :=
  not_or.2 ⟨not_not_intro hc, Nat.not_lt.2 hb⟩

/-- The head of a channel below the target is stepped over (R183). -/
theorem State.repairHead_below (hlt : (decodeHead head).channel < r.target) :
    s.repairHead r w head = s.repairOn r w.area w.header w.later (w.offset + (decodeHead head).size) :=
  (if_neg (not_unexpectedHead hc hb)).trans (if_pos hlt)

/-- The head of a channel above the target ends the repair NOT_FOUND (R183). -/
theorem State.repairHead_above (hlt : r.target < (decodeHead head).channel) :
    s.repairHead r w head =
      State.withRepair { s with ctl := .idle, lastRepair := .notFound r.target (some w.area) } :=
  (if_neg (not_unexpectedHead hc hb)).trans
    ((if_neg (not_lt_of_gt hlt)).trans ((if_pos hlt.ne').trans (State.endRepair_eq s _)))

/-- The target's tail of 0 bytes is judged at once (R183). -/
theorem State.repairHead_noTail (ht : (decodeHead head).channel = r.target) (hn : (decodeHead head).tailLength = 0) :
    s.repairHead r w head = s.repairTail r w head [] :=
  (if_neg (not_unexpectedHead hc hb)).trans
    ((if_neg ht.not_lt).trans ((if_neg (not_not_intro ht)).trans (if_pos hn)))

/-- The target has its tail read (R183). -/
theorem State.repairHead_tail (ht : (decodeHead head).channel = r.target) (hn : 0 < (decodeHead head).tailLength) :
    s.repairHead r w head =
      { s with
        ctl := .repairing { r with stage := .tail w head }
        port := some { address := w.area.base + 64 + w.offset + 18, kind := .read (decodeHead head).tailLength
                       finishing := false, ticks := 0 } } :=
  (if_neg (not_unexpectedHead hc hb)).trans
    ((if_neg ht.not_lt).trans ((if_neg (not_not_intro ht)).trans (if_neg hn.ne')))

end

/-- A tail whose CRC differs or whose fields fail ends the repair NOT_FOUND (R184). -/
theorem State.repairTail_invalid {r : RepairState} {w : Walk} {head tail : List Byte}
    (h : imageCrc head tail ≠ (decodeHead head).crc ∨ fieldsValid head tail = false) :
    s.repairTail r w head tail =
      State.withRepair { s with ctl := .idle, lastRepair := .notFound r.target (some w.area) } :=
  (if_pos h).trans (State.endRepair_eq s _)

/-- Settles O49: the head's channel against the expected one and the target, in the order of R183; a silence ends. -/
theorem repairWalksToItsTarget : Obligations.RepairWalksToItsTarget := by
  intro r w s hc
  refine ⟨fun head hh hr hl => ?_, fun p n took hs hf hk hl => ⟨?_, ?_⟩⟩
  · intro h size notFound
    have hrun := exec_repairHeadReadCompletion hh hc hr hl
    refine ⟨fun hbad => ?_, fun he hb =>
      ⟨fun c later hlt hw => ?_, fun hlt => ?_, fun ht hn => ?_, fun ht hn => ?_⟩⟩
    · exact hrun.trans (congrArg Host.Outcome.next (State.repairHead_unexpected hbad))
    · rw [hrun, State.repairHead_below he hb hlt, hw, State.repairOn_cons]
      rfl
    · exact hrun.trans (congrArg Host.Outcome.next (State.repairHead_above he hb hlt))
    · have hcount : h.count = 0 := by omega
      exact hrun.trans (congrArg Host.Outcome.next ((State.repairHead_noTail he hb ht hn).trans
        (State.repairTail_invalid (.inr (fieldsValid_of_no_points hcount [])))))
    · rw [hrun, State.repairHead_tail he hb ht hn]
      rfl
  · rw [exec_repairStoreSilence hs hf hk hc, State.repairSilent_walk hl]
  · rw [exec_repairStoreSilence hs hf hk hc]
    exact congrArg Host.Outcome.next (State.tick_silent_repair hs hf hk hc took)

end

end Sys2Proof.Machine

namespace Sys2Proof.Machine

section
variable {s : State} {c start : Channel} {selection : Byte}

/-! ### Read Attention (R134) -/

/-- A channel is a member exactly when it holds a reason (R125). -/
theorem State.mem_members : c ∈ s.members ↔ s.reasonsOf c ≠ 0#5 := by
  simp [State.members, State.member]

/-- Each member stands in the attention set once (R125). -/
theorem State.members_nodup (s : State) : s.members.Nodup := (List.nodup_finRange 256).filter _

/-- The member at or above the start that no other one precedes is found (R134). -/
theorem State.memberFrom_lowest (hle : start ≤ c) (hc : s.reasonsOf c ≠ 0#5)
    (hlow : ∀ d, start ≤ d → d < c → s.reasonsOf d = 0#5) : s.memberFrom start = some c := by
  rw [State.memberFrom, List.find?_eq_some_iff_getElem]
  refine ⟨by simp [hle, State.member, hc], c.val, by simp, by simp, fun j hj => ?_⟩
  have hbelow : start ≤ ⟨j, by omega⟩ → s.reasonsOf ⟨j, by omega⟩ = 0#5 := (hlow _ · (Fin.lt_def.2 hj))
  simpa [State.member, imp_iff_not_or] using hbelow

/-- Where no channel at or above the start holds a reason, none is found (R134). -/
theorem State.memberFrom_none (h : ∀ c, start ≤ c → s.reasonsOf c = 0#5) : s.memberFrom start = none := by
  simpa [State.memberFrom, State.member] using h

/-- Read Attention, heard, leaves the state as it is and reports the unit (R134). -/
theorem exec_readAttention (h : s.hears) (start : Channel) :
    exec (.readAttention start) s = .next (s.answered .readAttention .ok
      ([s.causes.zeroExtend 8] ++ be16 (BitVec.ofNat 16 s.members.length) ++ [flagByte s.attn] ++
        s.memberBytes (s.memberFrom start))) :=
  exec_answered (run := readAttention start) rfl h rfl

/-- Settles O35: what is found from the start is the lowest member there, or none. -/
theorem readAttentionReportsTheLowestMember : Obligations.ReadAttentionReportsTheLowestMember := by
  intro start s h
  refine ⟨s.members, s.members_nodup, fun c => State.mem_members, ?_⟩
  rw [exec_readAttention h]
  exact ⟨fun c hle hc hlow => by rw [State.memberFrom_lowest hle hc hlow]; rfl,
    fun hnone => ⟨0#8, by rw [State.memberFrom_none hnone]; rfl⟩⟩

/-! ### Clear Reasons and Clear Causes (R135, R136) -/

/-- A mask of the bits from `k` up meets the values from `2 ^ k` up: a selection names a code outside the first `k`. -/
theorem and_shifted_allOnes_ne_zero_iff {w : Nat} (x : BitVec w) (k : Nat) :
    x &&& (BitVec.allOnes w <<< k) ≠ 0#w ↔ 2 ^ k ≤ x.toNat := by
  have mask (i : Fin w) : (BitVec.allOnes w <<< k).getLsbD i = true ↔ k ≤ i := by simp
  simp only [and_ne_zero_iff, mask]
  constructor
  · rintro ⟨i, hi, hk⟩
    exact (Nat.pow_le_pow_right two_pos hk).trans (Nat.ge_two_pow_of_testBit hi)
  · intro hx
    obtain ⟨i, hk, hi⟩ := Nat.exists_ge_and_testBit_of_ge_two_pow hx
    exact ⟨⟨i, BitVec.lt_of_getLsbD hi⟩, hi, hk⟩

/-- The bits of a set that a selection leaves (R135, R136). -/
theorem getLsbD_and_not_setWidth {n : Nat} (held : BitVec n) (selection : Byte) (b : Fin n) :
    (held &&& ~~~(selection.setWidth n)).getLsbD b = (held.getLsbD b && !selection.getLsbD b) := by
  simp

/-- Clear Reasons refuses a selection of a code outside the five reasons (R135). -/
theorem clearReasons_badParam (h : 32 ≤ selection.toNat) : clearReasons c selection s = .refuse s .badParam :=
  if_pos ((and_shifted_allOnes_ne_zero_iff selection 5).2 h)

/-- Clear Reasons takes the selected reasons from the channel (R135). -/
theorem clearReasons_taken (h : selection.toNat < 32) :
    clearReasons c selection s =
      .ok (s.setReasons c (s.reasonsOf c &&& ~~~(selection.setWidth 5)))
        [byteOfChannel c, (s.reasonsOf c &&& ~~~(selection.setWidth 5)).zeroExtend 8] :=
  if_neg (mt (and_shifted_allOnes_ne_zero_iff selection 5).1 (Nat.not_le.2 h))

/-- Clear Causes refuses a selection of a code outside the three causes (R136). -/
theorem clearCauses_badParam (h : 8 ≤ selection.toNat) : clearCauses selection s = .refuse s .badParam :=
  if_pos ((and_shifted_allOnes_ne_zero_iff selection 3).2 h)

/-- Clear Causes clears the selected causes (R136). -/
theorem clearCauses_taken (h : selection.toNat < 8) :
    clearCauses selection s =
      .ok { s with causes := s.causes &&& ~~~(selection.setWidth 3) }
        [(s.causes &&& ~~~(selection.setWidth 3)).zeroExtend 8] :=
  if_neg (mt (and_shifted_allOnes_ne_zero_iff selection 3).1 (Nat.not_le.2 h))

/-- Settles O36: each command is refused or taken by its selection; a bit is left where it was held and not selected. -/
theorem clearReasonsAndCausesRemoveTheSelected : Obligations.ClearReasonsAndCausesRemoveTheSelected := by
  refine ⟨fun c selection s h => ⟨fun hs => ?_, fun hs => ?_⟩, fun selection s h => ⟨fun hs => ?_, fun hs => ?_⟩⟩
  · exact exec_answered (run := clearReasons c selection) rfl h (clearReasons_badParam hs)
  · exact ⟨_, getLsbD_and_not_setWidth (s.reasonsOf c) selection,
      exec_answered (run := clearReasons c selection) rfl h (clearReasons_taken (s := s.count) hs)⟩
  · exact exec_answered (run := clearCauses selection) rfl h (clearCauses_badParam hs)
  · exact ⟨_, getLsbD_and_not_setWidth s.causes selection,
      exec_answered (run := clearCauses selection) rfl h (clearCauses_taken (s := s.count) hs)⟩

end

end Sys2Proof.Machine

namespace Sys2Proof.Machine

section
variable {s : State}

/-! ### Save and Stop Save (R147, R154) -/

/-- Save is refused while an operation is in progress (R147). -/
theorem saveCommand_busy (h : s.ctl ≠ .idle) : saveCommand s = .refuse s .storeBusy := by
  have hidle : s.isIdle = false := by simpa [State.isIdle] using h
  simp [saveCommand, hidle]

/-- Save is refused while a slot is SUSPECT (R147). -/
theorem saveCommand_suspect (h : s.ctl = .idle) (hs : ∃ i, (s.slot i).state = .suspect) :
    saveCommand s = .refuse s .suspectPresent := by
  simp [saveCommand, (s.isIdle_iff).2 h, (s.anySuspect_iff).2 hs]

/-- Elsewhere Save begins a save (R147). -/
theorem saveCommand_accepted (h : s.ctl = .idle) (hs : ∀ i, (s.slot i).state ≠ .suspect) :
    saveCommand s = { state := s.startSave, status := .accepted, payload := [] } := by
  have hnone : s.anySuspect = false := by
    rw [Bool.eq_false_iff, ne_eq, s.anySuspect_iff, not_exists]
    exact hs
  simp [saveCommand, (s.isIdle_iff).2 h, hnone]

/-- Stop Save is refused where no save is in progress (R154). -/
theorem stopSaveCommand_refused (h : ∀ v, s.ctl ≠ .saving v) : stopSaveCommand s = .refuse s .wrongState := by
  unfold stopSaveCommand
  split
  case h_1 v hv => exact absurd hv (h v)
  case h_2 => rfl

/-- Stop Save ends the save in progress (R154). -/
theorem stopSaveCommand_saving {v : SaveState} (h : s.ctl = .saving v) :
    stopSaveCommand s = .ok (s.stopSave v) (savePhaseCode v.stage.phase :: be32 (BitVec.ofNat 32 v.done)) := by
  simp only [stopSaveCommand, h]
  rfl

/-- A save stopped: the transfer is dropped, and the save ends STOPPED (R144, R154). -/
theorem State.stopSave_eq (s : State) (v : SaveState) :
    s.stopSave v = State.withRepair
      { s with
        ctl := .idle, causes := s.causes ||| 0b010#3, port := s.portLeft
        lastSave := .stopped v.stage.phase v.stage.area v.done } := by
  rw [State.stopSave, State.dropTransfer_eq, State.endSave_eq]

/-- Settles O38: each check of Save and of Stop Save, then the start of a save and its end STOPPED. -/
theorem saveAndStopSave : Obligations.SaveAndStopSave := by
  intro s hears
  refine ⟨fun hc => ?_, fun hc hs => ?_, fun hc hs => ?_, fun hc => ?_, fun v hc => ?_⟩
  · exact exec_answered (run := saveCommand) rfl hears (saveCommand_busy (s := s.count) hc)
  · exact exec_answered (run := saveCommand) rfl hears (saveCommand_suspect (s := s.count) hc hs)
  · refine exec_answered (run := saveCommand) rfl hears ((saveCommand_accepted (s := s.count) hc hs).trans ?_)
    rw [State.startSave, State.issueFirst_eq]
    rfl
  · exact exec_answered (run := stopSaveCommand) rfl hears (stopSaveCommand_refused (s := s.count) hc)
  · refine exec_answered (run := stopSaveCommand) rfl hears ((stopSaveCommand_saving (s := s.count) hc).trans ?_)
    rw [State.stopSave_eq, ← State.withRepair_count]
    rfl

/-! ### A finishing write (R143, R144) -/

/-- Once the port is free, the first transfer that waited for it is issued (R144). -/
theorem State.portFreed_waiting (h : s.ctl.atFirstTransfer = true) :
    s.portFreed = { s with port := some { address := 0, kind := .read 64, finishing := false, ticks := 0 } } :=
  if_pos h

/-- With no transfer waiting the port stays free (R144). -/
theorem State.portFreed_idle (h : ¬ s.ctl.atFirstTransfer = true) : s.portFreed = { s with port := none } := if_neg h

/-- A free port, and the start of the transfer that waited for it, leave the step timer alone (R144, R174). -/
theorem portFreed_sparesStepTimer : sparesStepTimer State.portFreed := fun s => by
  by_cases h : s.ctl.atFirstTransfer = true
  · rw [State.portFreed_waiting h]
    exact ⟨rfl, fun n => State.portFreed_waiting (s := s.stepTimerAt n) h⟩
  · rw [State.portFreed_idle h]
    exact ⟨rfl, fun n => State.portFreed_idle (s := s.stepTimerAt n) h⟩

/-- FINISHING_WRITE_COMPLETION: the bytes are in the store and the port is free (R142, R144). -/
theorem exec_finishingWriteCompletion (hh : s.held = false) {p : Transfer} (hp : s.port = some p)
    (hf : p.finishing = true) {data : List Byte} (hk : p.kind = .write data) :
    exec .finishingWriteCompletion s =
      .next (State.portFreed { s with store := Mem.writeBytes s.store p.address data }) := by
  obtain ⟨address, kind, finishing, ticks⟩ := p
  subst hf hk
  refine congrArg Host.Outcome.next ((State.awake_running hh _).trans ?_)
  simp only [State.finishingDone, hp]

/-- A cut write leaves the old contents, or the bytes written with no valid image in their area (R148, R153). -/
theorem Mem.cutWrite_cases (m : Mem) (a : Nat) (bytes : List Byte) :
    Mem.cutWrite m a bytes = m ∨
      Mem.cutWrite m a bytes = Mem.writeBytes m a bytes ∧
        Mem.image (Mem.cutWrite m a bytes) (areaOfAddress a) = none := by
  simp only [Mem.cutWrite]
  split
  case isTrue => exact .inl rfl
  case isFalse h => exact .inr ⟨rfl, by simpa using h⟩

/-- What the store holds once this transfer has fallen silent (R148). -/
def Transfer.silentStore (t : Transfer) (took : Bool) (m : Mem) : Mem :=
  match t.kind with
  | .read _ => m
  | .write data => if took then Mem.cutWrite m t.address data else m

/-- After a silence the port is free (R143). -/
theorem State.afterSilence_eq (s : State) (t : Transfer) (took : Bool) :
    s.afterSilence t took = { s with port := none, store := t.silentStore took s.store } := by
  unfold State.afterSilence Transfer.silentStore
  cases t.kind <;> rfl

/-- A read that falls silent changes no byte (R142). -/
theorem Transfer.silentStore_read {t : Transfer} {n : Nat} (hk : t.kind = .read n) (took : Bool) (m : Mem) :
    t.silentStore took m = m := by rw [silentStore, hk]

/-- What was not taken changes no byte (R148). -/
theorem Transfer.silentStore_not_taken (t : Transfer) (m : Mem) : t.silentStore false m = m := by
  unfold silentStore
  cases t.kind <;> rfl

/-- A page write that falls silent was taken or not, and leaves no valid image in its area where it was (R148, R153). -/
theorem Transfer.silentStore_write {t : Transfer} {data : List Byte} (hk : t.kind = .write data) (took : Bool)
    (m : Mem) :
    t.silentStore took m = m ∨
      t.silentStore took m = Mem.writeBytes m t.address data ∧
        Mem.image (t.silentStore took m) (areaOfAddress t.address) = none := by
  cases took with
  | false => exact .inl (t.silentStore_not_taken m)
  | true =>
    rw [show t.silentStore true m = Mem.cutWrite m t.address data by rw [silentStore, hk]; rfl]
    exact Mem.cutWrite_cases m t.address data

/-- A silence tells the operation, and the tick counts; the two may be taken in either order where what the operation
does leaves the step timer alone (R112, R143, R174). -/
theorem State.tick_silent_told {p : Transfer} (h : s.silentTick p) (took : Bool) {f : State → State}
    (hf : sparesStepTimer f)
    (hs : ∀ t : State, t.ctl = s.ctl → t.silence p took = f (t.afterSilence p took)) :
    s.tick took = f { s.ticked with store := p.silentStore took s.store } := by
  obtain ⟨-, -, -, -, hstep⟩ := id h
  rw [State.tick_silent h, hs { s with msCount := s.msCount + 1 } rfl, State.afterSilence_eq]
  exact hf.scrubTick hstep

/-- FINISHING_WRITE_SILENCE: the port is free (R143, R144). -/
theorem exec_finishingWriteSilence {p : Transfer} (hf : p.finishing = true) (h : s.silentTick p) (took : Bool) :
    exec (.finishingWriteSilence took) s =
      .next (State.portFreed { s.ticked with store := p.silentStore took s.store }) := by
  have hdue : s.silenceDue true = true := hf ▸ State.silenceDue_of h
  refine congrArg Host.Outcome.next ((if_pos hdue).trans ?_)
  exact State.tick_silent_told h took portFreed_sparesStepTimer fun t _ => if_pos hf

/-- DEFERRED_TRANSFER_ISSUE while a transfer is in progress (R144). -/
theorem exec_deferredTransferIssue_busy (hh : s.held = false) {p : Transfer} (hp : s.port = some p) :
    exec .deferredTransferIssue s = .next s := by
  refine congrArg Host.Outcome.next ((State.awake_running hh _).trans ?_)
  simp only [State.deferredIssue, State.issueDeferred, State.issueFirst, hp, ite_self]

/-- DEFERRED_TRANSFER_ISSUE while the port is free (R144). -/
theorem exec_deferredTransferIssue_free (hh : s.held = false) (hp : s.port = none) :
    exec .deferredTransferIssue s = .next s.portFreed := by
  refine congrArg Host.Outcome.next ((State.awake_running hh _).trans ?_)
  rw [State.portFreed, ← hp]
  rfl

/-- Settles O42: each way the port becomes free issues the first transfer that waited for it, and only that. -/
theorem finishingWriteFreesThePort : Obligations.FinishingWriteFreesThePort := by
  intro p data s first waits
  have hwaits : s.ctl.atFirstTransfer = true ↔ waits := Controller.atFirstTransfer_iff s.ctl
  have freed {event : Instr} {base : State} (hrun : exec event s = .next base.portFreed) (hctl : base.ctl = s.ctl) :
      (waits → exec event s = .next { base with port := first }) ∧
        (¬ waits → exec event s = .next { base with port := none }) := by
    rw [← hwaits, ← hctl, hrun]
    exact ⟨fun h => congrArg _ (State.portFreed_waiting h), fun h => congrArg _ (State.portFreed_idle h)⟩
  refine ⟨fun hf hk hh hp => ?_, fun hf hk hs took => ?_, fun hh hp => ?_, fun hh hp => ?_⟩
  · exact freed (exec_finishingWriteCompletion hh hp hf hk) rfl
  · obtain ⟨hfirst, hnone⟩ := freed (exec_finishingWriteSilence hf hs took) rfl
    exact ⟨_, fun h => h ▸ p.silentStore_not_taken s.store, p.silentStore_write hk took s.store, hfirst, hnone⟩
  · exact exec_deferredTransferIssue_busy hh hp
  · obtain ⟨hfirst, hnone⟩ := freed (exec_deferredTransferIssue_free hh hp) rfl
    refine ⟨hfirst, fun h => (hnone h).trans ?_⟩
    rw [← hp]

end

end Sys2Proof.Machine

namespace Sys2Proof.Machine

section
variable {s : State}

/-! ### A slot and cells for a record (R8, R21) -/

/-- Without the cells or without a FREE slot there is no room (R8, R21). -/
theorem State.room_none {cells : Nat} (h : s.freeCells < cells ∨ ∀ i, (s.slot i).state ≠ .free) :
    s.room cells = none := by
  unfold State.room
  split
  case isTrue hcells => exact State.lowestFree_none (h.resolve_left (Nat.not_lt.2 hcells))
  case isFalse => rfl

/-- With the cells the room is the lowest FREE slot (R8, R21). -/
theorem State.room_of {cells : Nat} {i : SlotIdx} (hi : s.isLowestFree i) (h : cells ≤ s.freeCells) :
    s.room cells = some i := (if_pos h).trans (State.lowestFree_of hi)

/-! ### The tails of a load (R166 to R169) -/

/-- LOAD_TAIL_READ_COMPLETION: the port is free, and the record is judged (R166). -/
theorem exec_loadTailReadCompletion (hh : s.held = false) {l : LoadState} (hc : s.ctl = .loading l) {w : Walk}
    {head tail : List Byte} (hl : l.stage = .tail w head) (hr : s.reads tail) :
    exec .loadTailReadCompletion s = .next (State.loadTail { s with port := none } l w head tail) := by
  refine congrArg Host.Outcome.next ((State.awake_running hh _).trans ?_)
  simp only [State.loadTailRead, hc, State.readReply_of hr, hl]

section
variable {l : LoadState} {w : Walk} {head tail : List Byte} (hcrc : imageCrc head tail = (decodeHead head).crc)
include hcrc

/-- A record without room leaves its channel LOST under the head's revision, and the walk goes on (R168, R169). -/
theorem State.loadTail_noRoom (hr : s.room (decodeHead head).count = none) :
    s.loadTail l w head tail =
      (s.markLost w.expected (decodeHead head).revision).walkOn w.area w.header w.later
        (w.offset + (decodeHead head).size) l.installed (l.lost + 1) := by
  cases hv : fieldsValid head tail with
  | false => exact State.loadTail_invalid hcrc hv
  | true =>
    refine (if_neg (not_not_intro hcrc)).trans ((if_neg (by rw [hv]; decide)).trans ?_)
    rw [hr]

/-- A valid record with room is installed, and the walk goes on (R168). -/
theorem State.loadTail_installs (hv : fieldsValid head tail = true) {i : SlotIdx}
    (hr : s.room (decodeHead head).count = some i) :
    s.loadTail l w head tail =
      (s.loadInstall i (decodeRecord head tail)).walkOn w.area w.header w.later
        (w.offset + (decodeHead head).size) (l.installed + 1) l.lost := by
  refine (if_neg (not_not_intro hcrc)).trans ((if_neg (by rw [hv]; decide)).trans ?_)
  rw [hr]

end

/-- The due time of a record brought back is compared with part time (R18, R121). -/
theorem dueBy_eq (now : Word) (c : Content) :
    dueBy now c = match c.due with
      | some d => decide (d.toNat ≤ now.toNat)
      | none => false := by
  unfold dueBy
  cases c.due <;> rfl

/-- Settles O47: the CRC, the fields and the room decide what becomes of the record, and the walk goes on or ends. -/
theorem loadTailInstallsOrLoses : Obligations.LoadTailInstallsOrLoses := by
  intro l w head tail s hh hc hl hr hchannel h c next lost
  have hrun := exec_loadTailReadCompletion hh hc hl hr
  have goesOn {t : State} {installed n : Nat} (hcauses : t.causes = s.causes)
      (hjudged : State.loadTail { s with port := none } l w head tail =
        State.walkOn { t with port := none } w.area w.header w.later (w.offset + h.size) installed n) :
      next t installed n := by
    have hjudged := hrun.trans (congrArg Host.Outcome.next hjudged)
    refine ⟨fun d later hw => ?_, fun hw => ?_⟩
    · rw [hjudged, hw, State.walkOn_cons]
      rfl
    · rw [hjudged, hw, State.walkOn_nil, ← hcauses]
      rfl
  refine ⟨fun hcrc => ?_, fun hcrc => ⟨fun hlost => ?_, fun hv hcells i hi => ?_⟩⟩
  · refine ⟨State.loseRest { s with port := none } w, State.loseAll_lostOnly _ { s with port := none }, ?_⟩
    rw [hrun, State.loadTail_untrusted hcrc, State.untrusted, State.loseRest_endLoad, Walk.lostWith,
      Nat.add_comm w.later.length, ← Nat.add_assoc]
  · obtain hv | hroom := hlost
    · exact goesOn rfl (State.loadTail_invalid hcrc hv)
    · exact goesOn rfl (State.loadTail_noRoom hcrc (State.room_none (s := { s with port := none }) hroom))
  · intro expired installed
    have hexpired : dueBy s.partTime c = expired := dueBy_eq s.partTime c
    clear_value expired
    have hinstall : State.loadInstall { s with port := none } i c =
        { (if expired then installed.setReasons w.expected (s.reasonsOf w.expected ||| 0b00001#5) else installed) with
          port := none } := by
      rw [State.loadInstall, show c.channel = w.expected from hchannel]
      simp only [hexpired]
      cases expired <;> rfl
    have hroom := State.room_of (s := { s with port := none }) hi hcells
    refine goesOn ?_ ((State.loadTail_installs hcrc hv hroom).trans ?_)
    · cases expired <;> rfl
    · rw [hinstall]

/-! ### The tail of a repair (R184 to R186) -/

/-- REPAIR_TAIL_READ_COMPLETION: the port is free, and the record is judged (R184). -/
theorem exec_repairTailReadCompletion (hh : s.held = false) {r : RepairState} (hc : s.ctl = .repairing r) {w : Walk}
    {head tail : List Byte} (hl : r.stage = .tail w head) (hr : s.reads tail) :
    exec .repairTailReadCompletion s = .next (State.repairTail { s with port := none } r w head tail) := by
  refine congrArg Host.Outcome.next ((State.awake_running hh _).trans ?_)
  simp only [State.repairTailRead, hc, State.readReply_of hr, hl]

section
variable {r : RepairState} {w : Walk} {head tail : List Byte} (hcrc : imageCrc head tail = (decodeHead head).crc)
  (hv : fieldsValid head tail = true)
include hcrc hv

/-- From the second check of a repair on (R184). -/
theorem State.repairTail_valid :
    s.repairTail r w head tail =
      if s.boundSlot r.target ≠ some r.slot ∨ (s.slot r.slot).state ≠ .suspect then
        s.endRepair (.superseded r.target w.area)
      else if (decodeHead head).revision ≠ (s.entry r.target).revision then
        s.endRepair (.stale r.target w.area (decodeHead head).revision)
      else match s.room (decodeHead head).count with
        | none => s.endRepair (.noRoom r.target w.area)
        | some i =>
          (s.repairInstall r i (decodeRecord head tail)).endRepair
            (.installed r.target w.area (decodeHead head).revision i) := by
  refine (if_neg ?_).trans rfl
  simp [hcrc, hv]

/-- The second check: the target is no longer BOUND to the slot, or the slot is no longer SUSPECT (R184). -/
theorem State.repairTail_superseded
    (h : (s.entry r.target).binding ≠ .bound r.slot ∨ (s.slot r.slot).state ≠ .suspect) :
    s.repairTail r w head tail = s.endRepair (.superseded r.target w.area) :=
  (State.repairTail_valid hcrc hv).trans (if_pos (h.imp_left (mt (s.boundSlot_iff _ _).1)))

variable (hb : (s.entry r.target).binding = .bound r.slot) (hs : (s.slot r.slot).state = .suspect)
include hb hs

/-- From the third check of a repair on (R184). -/
theorem State.repairTail_waiting :
    s.repairTail r w head tail =
      if (decodeHead head).revision ≠ (s.entry r.target).revision then
        s.endRepair (.stale r.target w.area (decodeHead head).revision)
      else match s.room (decodeHead head).count with
        | none => s.endRepair (.noRoom r.target w.area)
        | some i =>
          (s.repairInstall r i (decodeRecord head tail)).endRepair
            (.installed r.target w.area (decodeHead head).revision i) :=
  (State.repairTail_valid hcrc hv).trans
    (if_neg (not_or.2 ⟨not_not_intro ((s.boundSlot_iff _ _).2 hb), not_not_intro hs⟩))

end

/-- What a repair's install does, the new slot being another than the SUSPECT one (R185). -/
theorem State.repairInstall_eq {r : RepairState} {i : SlotIdx} (hi : r.slot ≠ i) (c : Content) :
    s.repairInstall r i c =
      { ((((s.setSlot i (installedSlot c (s.slot r.slot).expired)).setEntry r.target
          { binding := .bound i, revision := (s.entry r.target).revision }).setSlot r.slot
            (s.slot r.slot).released).setReasons r.target
          ((s.reasonsOf r.target &&& ~~~suspectBit) ||| repairedBit)) with
        freeCells := s.freeCells - c.points.length +
          if (s.slot r.slot).pins = 0 then (s.slot r.slot).content.points.length else 0 } := by
  rw [State.repairInstall, State.release_eq]
  have hold : ∀ x n e,
      (State.setEntry { s.setSlot i x with freeCells := n } r.target e).slot r.slot = s.slot r.slot :=
    fun x _ _ => State.slot_setSlot_other s i x r.slot hi
  simp only [hold]
  rfl

/-- Settles O50: the five checks in the order of R184, each with those before it passed, and the install. -/
theorem repairTailInstallsOrEnds : Obligations.RepairTailInstallsOrEnds := by
  intro r w head tail s hh hc hl hr h c ended
  have hrun := exec_repairTailReadCompletion hh hc hl hr
  have ends {o : RepairOutcome}
      (he : State.repairTail { s with port := none } r w head tail = State.endRepair { s with port := none } o) :
      ended s o := by
    show exec _ _ = _
    rw [hrun, he, State.endRepair_eq]
  refine ⟨fun hbad => ends (if_pos hbad), fun hcrc hv => ⟨fun hother => ?_, fun hb hs => ?_⟩⟩
  · exact ends (State.repairTail_superseded hcrc hv hother)
  · have hwaiting := State.repairTail_waiting (s := { s with port := none }) (w := w) hcrc hv hb hs
    refine ⟨fun hrev => ends (hwaiting.trans (if_pos hrev)), fun hrev => ?_⟩
    have hroom := hwaiting.trans (if_neg (not_not_intro hrev))
    refine ⟨fun hno => ends (hroom.trans ?_), fun i hi hcells => ?_⟩
    · rw [State.room_none (s := { s with port := none }) hno]
    · have hne : r.slot ≠ i := by
        rintro rfl
        exact absurd (hs.symm.trans hi.1) (by decide)
      rw [State.room_of (s := { s with port := none }) hi hcells] at hroom
      simp only [State.repairInstall_eq hne, State.endRepair_eq] at hroom
      refine hrun.trans (congrArg Host.Outcome.next (hroom.trans ?_))
      rw [hrev]
      rfl

end

end Sys2Proof.Machine

namespace Sys2Proof.Machine

section
variable {s : State}

/-! ### Set Control (R195, R196) -/

/-- An enable byte is off or on (R195). -/
theorem enableOk_iff (b : Byte) : enableOk b = true ↔ b.toNat ≤ 1 := by
  simp only [enableOk, Bool.or_eq_true, beq_iff_eq, ← BitVec.toNat_inj, BitVec.toNat_ofNat]
  omega

/-- A mask or a selection names no code outside the first `k`. -/
theorem and_shifted_allOnes_eq_zero_iff {w : Nat} (x : BitVec w) (k : Nat) :
    (x &&& (BitVec.allOnes w <<< k) == 0#w) = true ↔ x.toNat < 2 ^ k := by
  rw [beq_iff_eq, ← not_iff_not, Nat.not_lt]
  exact and_shifted_allOnes_ne_zero_iff x k

/-- The checks of R195: the thirteen settings alone are selected, and each selected value is in its range. -/
theorem controlOk_iff (selection : Half) (v : ControlBytes) :
    controlOk selection v = true ↔
      selection.toNat < 8192 ∧ (selects selection 2 = true → v.repairEnable.toNat ≤ 1) ∧
        (∀ n : LaneIdx, selects selection (3 + n.val) = true → (v.laneEnable.get n).toNat ≤ 1) ∧
        (∀ n : LaneIdx, selects selection (7 + n.val) = true →
          1 ≤ (v.threshold.get n).toNat ∧ (v.threshold.get n).toNat ≤ 8) ∧
        (selects selection 11 = true → v.reasonMask.toNat < 32) ∧
        (selects selection 12 = true → v.causeMask.toNat < 8) := by
  have hselection : (selection &&& 0xE000#16 == 0#16) = true ↔ selection.toNat < 8192 :=
    and_shifted_allOnes_eq_zero_iff selection 13
  have hreasons : (v.reasonMask &&& 0xE0#8 == 0#8) = true ↔ v.reasonMask.toNat < 32 :=
    and_shifted_allOnes_eq_zero_iff v.reasonMask 5
  have hcauses : (v.causeMask &&& 0xF8#8 == 0#8) = true ↔ v.causeMask.toNat < 8 :=
    and_shifted_allOnes_eq_zero_iff v.causeMask 3
  have himp (a b : Bool) : (!a || b) = true ↔ (a = true → b = true) := by cases a <;> simp
  simp only [controlOk, Bool.and_eq_true, himp, List.all_eq_true, List.mem_finRange, true_implies, hselection, hreasons,
    hcauses, enableOk_iff, thresholdOk, decide_eq_true_eq, and_assoc]

/-- Set Control refuses what its checks do not pass (R195). -/
theorem setControl_badParam {selection : Half} {v : ControlBytes} (h : ¬ controlOk selection v = true) :
    setControl selection v s = .refuse s .badParam := if_pos (by simpa using h)

/-- The state with the settings written, before a repair may start (R195, R196). -/
def State.controlWritten (s : State) (selection : Half) (v : ControlBytes) : State :=
  { s with
    control := writeControl selection v s.control, scrubCount := if selects selection 1 then 0 else s.scrubCount }

/-- Set Control writes the settings, and a repair may start (R146, R195, R196). -/
theorem setControl_taken {selection : Half} {v : ControlBytes} (h : controlOk selection v = true) :
    setControl selection v s =
      .ok (s.controlWritten selection v).withRepair (controlBytes (writeControl selection v s.control)) := by
  rw [← State.startRepair_eq]
  exact if_neg (by simpa using h)

/-- A selected mask that names no code outside the first `n` keeps its value in the register (R195). -/
theorem toNat_writtenMask {n : Nat} {b : Byte} {selected : Bool} (h : selected = true → b.toNat < 2 ^ n)
    (m : BitVec n) :
    (if selected then b.setWidth n else m).toNat = if selected then b.toNat else m.toNat := by
  cases selected with
  | false => rfl
  | true => exact (BitVec.toNat_setWidth _ _).trans (Nat.mod_eq_of_lt (h rfl))

/-- Settles O51: the checks are those of R195, and a write that passes them takes each selected value. -/
theorem setControlWritesTheSelected : Obligations.SetControlWritesTheSelected := by
  intro selection v s hears sel bad
  have hbad : controlOk selection v = true ↔ ¬ bad := by
    rw [controlOk_iff]
    simp only [bad, not_or, not_exists, not_and, not_le, not_lt]
    refine and_congr Iff.rfl (and_congr Iff.rfl (and_congr Iff.rfl (and_congr (forall₂_congr fun n _ => ?_) Iff.rfl)))
    rw [Nat.one_le_iff_ne_zero]
  refine ⟨fun h => ?_, fun h => ?_⟩
  · exact exec_answered (run := setControl selection v) rfl hears
      (setControl_badParam (s := s.count) (mt hbad.1 (not_not_intro h)))
  · have hok := hbad.2 h
    obtain ⟨-, -, -, -, hreasons, hcauses⟩ := (controlOk_iff selection v).1 hok
    refine ⟨writeControl selection v s.control, rfl, rfl, rfl, tabulate_get _, tabulate_get _,
      toNat_writtenMask hreasons _, toNat_writtenMask hcauses _, ?_⟩
    refine exec_answered (run := setControl selection v) rfl hears ((setControl_taken (s := s.count) hok).trans ?_)
    show Answer.ok (s.controlWritten selection v).count.withRepair _ = _
    rw [State.withRepair_count]
    rfl

/-! ### Read Status (R198, R199, R204) -/

/-- Read Status, heard, reports the items and clears the mismatch counter (R177, R198). -/
theorem exec_readStatus (h : s.hears) :
    exec .readStatus s = .next (State.answered { s with mismatches := 0 } .readStatus .ok s.statusBytes) :=
  exec_answered (run := readStatus) rfl h rfl

/-- The controller's field has 15 bytes in every state of the controller (R199, R204). -/
theorem controllerBytes_length (c : Controller) : (controllerBytes c).length = 15 := by
  obtain _ | ⟨stage, _, _, _, _, _⟩ | ⟨stage, _, _⟩ | ⟨_, _, stage⟩ := c
  case idle => rfl
  all_goals cases stage <;> rfl

/-- The repair queue's field has 9 bytes (R204). -/
theorem queueBytes_length (q : List Channel) : (queueBytes q).length = 9 := by
  simp [queueBytes, absent]

/-- The last save outcome's field has 17 bytes (R152, R204). -/
theorem saveOutcomeBytes_length (o : SaveOutcome) : (saveOutcomeBytes o).length = 17 := by
  cases o <;> rfl

/-- The last load outcome's field has 13 bytes (R171, R204). -/
theorem loadOutcomeBytes_length (o : LoadOutcome) : (loadOutcomeBytes o).length = 13 := by
  cases o <;> rfl

/-- The last repair outcome's field has 6 bytes (R186, R204). -/
theorem repairOutcomeBytes_length (o : RepairOutcome) : (repairOutcomeBytes o).length = 6 := by
  cases o <;> rfl

/-- Read Status answers with 73 bytes (R198, R204). -/
theorem State.statusBytes_length (s : State) : s.statusBytes.length = 73 := by
  simp [State.statusBytes, controllerBytes_length, queueBytes_length, saveOutcomeBytes_length, loadOutcomeBytes_length,
    repairOutcomeBytes_length, be16, be32]

/-- Settles O53: each field of the report by the state that it reports. -/
theorem readStatusReportsAndClearsTheCounter : Obligations.ReadStatusReportsAndClearsTheCounter := by
  intro s hears ff area chosen phase byte word channel controller queue save load repair payload
  have hchosen (z : Option Area) : [areaByte z] = chosen z := by
    obtain _ | ⟨_ | _⟩ := z <;> rfl
  have hcontroller : controllerBytes s.ctl = controller := by
    simp only [controller]
    generalize s.ctl = c
    obtain _ | ⟨stage, _, _, _, _, _⟩ | ⟨stage, _, _⟩ | ⟨_, _, stage⟩ := c
    case idle => rfl
    all_goals cases stage <;> rfl
  have hsave : saveOutcomeBytes s.lastSave = save := by
    simp only [save, ← hchosen]
    generalize s.lastSave = o
    cases o with
    | done z => cases z <;> rfl
    | _ => rfl
  have hload : loadOutcomeBytes s.lastLoad = load := by
    simp only [load]
    generalize s.lastLoad = o
    cases o <;> rfl
  have hrepair : repairOutcomeBytes s.lastRepair = repair := by
    simp only [repair, ← hchosen]
    generalize s.lastRepair = o
    cases o <;> rfl
  have hpayload : s.statusBytes = payload := by
    rw [State.statusBytes, hcontroller, hsave, hload, hrepair]
    rfl
  rw [← hpayload]
  exact ⟨exec_readStatus hears, s.statusBytes_length⟩

end

end Sys2Proof.Machine

namespace Sys2Proof.Machine

section
variable {s : State}

/-! ### The header reads of a save (R141, R148) -/

/-- SAVE_HEADER_READ_COMPLETION after area A: the read of area B is issued (R148). -/
theorem exec_saveHeaderReadCompletion_readA (hh : s.held = false) {v : SaveState} (hc : s.ctl = .saving v)
    {bytes : List Byte} (hr : s.reads bytes) (hv : v.stage = .readA) :
    exec .saveHeaderReadCompletion s = .next
      { s with
        ctl := .saving { v with stage := .readB (parseHeader bytes) }
        port := some { address := 32768, kind := .read 64, finishing := false, ticks := 0 } } := by
  refine congrArg Host.Outcome.next ((State.awake_running hh _).trans ?_)
  simp only [State.saveHeaderRead, hc, State.readReply_of hr, hv]
  rfl

/-- SAVE_HEADER_READ_COMPLETION after area B: the target's first four bytes are written with zeros (R148). -/
theorem exec_saveHeaderReadCompletion_readB (hh : s.held = false) {v : SaveState} (hc : s.ctl = .saving v)
    {bytes : List Byte} (hr : s.reads bytes) {a : Option Header} (hv : v.stage = .readB a) :
    exec .saveHeaderReadCompletion s = .next
      { s with
        ctl := .saving { v with stage := .invalidate (saveTarget a (parseHeader bytes)) }
        port := some { address := (saveTarget a (parseHeader bytes)).area.base, kind := .write [0#8, 0#8, 0#8, 0#8]
                       finishing := false, ticks := 0 } } := by
  refine congrArg Host.Outcome.next ((State.awake_running hh _).trans ?_)
  simp only [State.saveHeaderRead, hc, State.readReply_of hr, hv]
  rfl

/-- Serial comparison on the difference modulo 2 to the 32 (spec/00 section 5). -/
theorem later_iff (x y : Word) :
    later x y = true ↔
      1 ≤ (x.toNat + 4294967296 - y.toNat) % 4294967296 ∧
        (x.toNat + 4294967296 - y.toNat) % 4294967296 ≤ 2147483647 := by
  have hsub : (x - y).toNat = (x.toNat + 4294967296 - y.toNat) % 4294967296 := by
    rw [BitVec.toNat_sub]
    omega
  simp only [later, hsub, Bool.and_eq_true, decide_eq_true_eq]

/-- Settles O39: the two completions, the serial comparison, and the target beside the newest image. -/
theorem saveChoosesItsTarget : Obligations.SaveChoosesItsTarget := by
  refine ⟨fun v bytes s hh hc hr => ⟨exec_saveHeaderReadCompletion_readA hh hc hr, fun a hv => ?_⟩, rfl,
    fun h => ⟨rfl, rfl⟩, fun ha hb => ?_, rfl, fun a b h => ⟨fun hn => ?_, fun hn => ?_⟩⟩
  · exact exec_saveHeaderReadCompletion_readB hh hc hr hv
  · simp only [newest, later_iff]
  · rw [saveTarget, hn]
    rfl
  · rw [saveTarget, hn]
    rfl

/-! ### The record images of the body (R149) -/

/-- The record image that a save writes for a channel, none where it is not BOUND (R149). -/
def State.imageOf (s : State) (c : Channel) : List Byte :=
  match s.boundSlot c with
  | some i => recordImage (s.slot i).content
  | none => []

/-- The image of a BOUND channel is that of its slot's content (R149). -/
theorem State.imageOf_bound {c : Channel} {i : SlotIdx} (h : s.boundSlot c = some i) :
    s.imageOf c = recordImage (s.slot i).content := by rw [State.imageOf, h]

/-- A channel that is not BOUND has no image (R149). -/
theorem State.imageOf_unbound {c : Channel} (h : s.boundSlot c = none) : s.imageOf c = [] := by
  rw [State.imageOf, h]

/-- The image in the words of the map entry (R1, R149). -/
theorem State.imageOf_entry (s : State) (c : Channel) :
    s.imageOf c = match (s.entry c).binding with
      | .bound i => recordImage (s.slot i).content
      | .unassigned | .lost => [] := by
  unfold State.imageOf State.boundSlot
  cases (s.entry c).binding <;> rfl

/-- The BOUND ones among these channels. -/
def State.boundIn (s : State) (cs : List Channel) : List Channel := cs.filter fun c => (s.boundSlot c).isSome

/-- A channel that is not BOUND is left out. -/
theorem State.boundIn_unbound {c : Channel} (h : s.boundSlot c = none) (cs : List Channel) :
    s.boundIn (c :: cs) = s.boundIn cs := List.filter_cons_of_neg (by simp [h])

/-- A BOUND channel is kept. -/
theorem State.boundIn_bound {c : Channel} {i : SlotIdx} (h : s.boundSlot c = some i) (cs : List Channel) :
    s.boundIn (c :: cs) = c :: s.boundIn cs := List.filter_cons_of_pos (by simp [h])

/-- The body holds images of the BOUND channels alone (R149). -/
theorem State.images_boundIn (s : State) (cs : List Channel) :
    (s.boundIn cs).flatMap s.imageOf = cs.flatMap s.imageOf := by
  induction cs with
  | nil => rfl
  | cons c cs ih =>
    cases h : s.boundSlot c with
    | none => rw [State.boundIn_unbound h, ih, List.flatMap_cons, State.imageOf_unbound h, List.nil_append]
    | some i => rw [State.boundIn_bound h, List.flatMap_cons, ih, List.flatMap_cons]

/-- What a save has still to put into pages: the rest in hand, and the images of the BOUND channels left (R149). -/
theorem State.bodyLeft_eq (s : State) (v : SaveState) :
    s.bodyLeft v = v.rest ++ (s.channelsLeft v.last).flatMap s.imageOf :=
  congrArg (v.rest ++ ·) (s.images_boundIn (channelsAbove v.last)).symm

/-! ### Filling a page (R149, R150) -/

/-- The page after a record image of this channel: what has room goes into the page, the rest stays in hand (R149). -/
def Page.add (p : Page) (c : Channel) (image : List Byte) : Page :=
  { bytes := p.bytes ++ image.take (64 - p.bytes.length), rest := image.drop (64 - p.bytes.length), last := some c
    written := p.written ++ [c] }

/-- A page holds at most 64 bytes, and bytes stay in hand only beside a full page (R149). -/
def Page.packed (p : Page) : Prop := p.bytes.length ≤ 64 ∧ (p.bytes.length < 64 → p.rest = [])

/-- A page after one more image holds at most 64 bytes, and bytes stay in hand only beside a full page (R149). -/
theorem Page.packed_add {p : Page} (h : p.bytes.length < 64) (c : Channel) (image : List Byte) :
    (p.add c image).packed := by
  simp only [Page.packed, Page.add, List.length_append, List.length_take, List.drop_eq_nil_iff]
  omega

/-- The image goes into the page and stays in hand as a whole (R149). -/
theorem Page.add_bytes (p : Page) (c : Channel) (image : List Byte) :
    (p.add c image).bytes ++ (p.add c image).rest = p.bytes ++ image := by
  simp only [Page.add, List.append_assoc, List.take_append_drop]

/-- An image that fits leaves nothing in hand (R149). -/
theorem Page.add_fitting {p : Page} {c : Channel} {image : List Byte} (h : p.bytes.length + image.length ≤ 64) :
    (p.add c image).bytes = p.bytes ++ image :=
  congrArg (p.bytes ++ ·) (List.take_of_length_le (by omega))

section
variable {c : Channel} {i : SlotIdx} {cs : List Channel} {p : Page}

/-- A full page takes nothing more (R149). -/
theorem State.fillPage_full (h : 64 ≤ p.bytes.length) (cs : List Channel) : s.fillPage cs p = .page p := by
  cases cs with
  | nil => rfl
  | cons c cs => exact if_pos h

/-- A channel that is not BOUND is passed over (R149). -/
theorem State.fillPage_unbound (hb : s.boundSlot c = none) : s.fillPage (c :: cs) p = s.fillPage cs p := by
  by_cases h : 64 ≤ p.bytes.length
  · rw [State.fillPage_full h, State.fillPage_full h]
  · refine (if_neg h).trans ?_
    rw [hb]

variable (h : p.bytes.length < 64) (hb : s.boundSlot c = some i)
include h hb

/-- A page with room checks the record of a BOUND channel, and takes it where it is sound (R149, R150). -/
theorem State.fillPage_bound :
    s.fillPage (c :: cs) p =
      if (s.slot i).state ≠ .active then .corrupt c none
      else if (!contentSound (s.slot i).content) = true then .corrupt c (some i)
      else s.fillPage cs (p.add c (recordImage (s.slot i).content)) := by
  refine (if_neg (Nat.not_le.2 h)).trans ?_
  rw [hb]
  rfl

/-- A sound record is taken into the page (R149). -/
theorem State.fillPage_sound (ha : (s.slot i).state = .active) (hs : contentSound (s.slot i).content = true) :
    s.fillPage (c :: cs) p = s.fillPage cs (p.add c (recordImage (s.slot i).content)) :=
  (State.fillPage_bound h hb).trans ((if_neg (not_not_intro ha)).trans (if_neg (by rw [hs]; decide)))

end

/-- These channels' records are ACTIVE and sound where they are BOUND (R149). -/
def State.recordsSound (s : State) (cs : List Channel) : Prop :=
  ∀ c ∈ cs, ∀ i, s.boundSlot c = some i → (s.slot i).state = .active ∧ contentSound (s.slot i).content = true

/-- Where the records are sound a page is filled: what was to be put into pages is in the page, or left in order, and it
is left only beside a full page (R149). -/
theorem State.fillPage_of_sound (cs : List Channel) (p : Page) (hp : p.packed) (hsound : s.recordsSound cs)
    (hcs : cs <:+ List.finRange 256) (hleft : s.channelsLeft p.last = s.boundIn cs) :
    ∃ p' : Page, s.fillPage cs p = .page p' ∧ p'.bytes.length ≤ 64 ∧
      p'.bytes ++ (p'.rest ++ (s.channelsLeft p'.last).flatMap s.imageOf) =
        p.bytes ++ (p.rest ++ (s.channelsLeft p.last).flatMap s.imageOf) ∧
      (p'.bytes.length < 64 → p'.rest ++ (s.channelsLeft p'.last).flatMap s.imageOf = []) ∧
      p'.written ++ s.channelsLeft p'.last = p.written ++ s.channelsLeft p.last := by
  induction cs generalizing p with
  | nil =>
    refine ⟨p, rfl, hp.1, rfl, fun h => ?_, rfl⟩
    rw [hp.2 h, hleft]
    rfl
  | cons c cs ih =>
    have hcs' : cs <:+ List.finRange 256 := (List.suffix_cons c cs).trans hcs
    have hsound' : s.recordsSound cs := fun d hd => hsound d (List.mem_cons_of_mem c hd)
    by_cases hfull : 64 ≤ p.bytes.length
    · exact ⟨p, State.fillPage_full hfull _, hp.1, rfl, fun h => absurd hfull (Nat.not_le.2 h), rfl⟩
    · have hroom := Nat.not_le.1 hfull
      cases hb : s.boundSlot c with
      | none =>
        rw [State.fillPage_unbound hb]
        exact ih p hp hsound' hcs' (hleft.trans (State.boundIn_unbound hb cs))
      | some i =>
        obtain ⟨hactive, hcrc⟩ := hsound c List.mem_cons_self i hb
        have hafter : s.channelsLeft (some c) = s.boundIn cs :=
          congrArg s.boundIn (channelsAbove_of_suffix hcs)
        obtain ⟨p', hfill, hlen, hbytes, hrest, hwritten⟩ :=
          ih _ (Page.packed_add hroom c _) hsound' hcs' hafter
        refine ⟨p', (State.fillPage_sound hroom hb hactive hcrc).trans hfill, hlen, hbytes.trans ?_, hrest,
          hwritten.trans ?_⟩
        · rw [← List.append_assoc, Page.add_bytes, hp.2 hroom, hleft, State.boundIn_bound hb, List.flatMap_cons,
            State.imageOf_bound hb, List.nil_append, List.append_assoc]
          exact congrArg (fun cs => p.bytes ++ (recordImage (s.slot i).content ++ cs.flatMap s.imageOf)) hafter
        · rw [hleft, State.boundIn_bound hb]
          exact (List.append_assoc _ _ _).trans (congrArg (p.written ++ c :: ·) hafter)

/-- A first part of at most `n` elements, with a second part only where it has `n`, is what is taken. -/
theorem take_drop_of_append {α : Type} {a b l : List α} {n : Nat} (h : a ++ b = l) (ha : a.length ≤ n)
    (hb : a.length < n → b = []) : a = l.take n ∧ b = l.drop n := by
  subst h
  obtain hlt | heq := ha.lt_or_eq
  · rw [hb hlt, List.append_nil, List.take_of_length_le ha, List.drop_of_length_le ha]
    exact ⟨rfl, rfl⟩
  · rw [← heq, List.take_left, List.drop_left]
    exact ⟨rfl, rfl⟩

/-- The first page of an assembly event holds the bytes in hand (R149). -/
theorem State.nextPage_of_sound {v : SaveState} (h : s.bodySound v) :
    ∃ p : Page, s.nextPage v = .page p ∧ p.bytes = (s.bodyLeft v).take 64 ∧
      p.rest ++ (s.channelsLeft p.last).flatMap s.imageOf = (s.bodyLeft v).drop 64 ∧
      p.written ++ s.channelsLeft p.last = v.written ++ s.channelsLeft v.last := by
  obtain ⟨p, hfill, hlen, hbytes, hrest, hwritten⟩ := State.fillPage_of_sound (s := s) (channelsAbove v.last)
    { bytes := v.rest.take 64, rest := v.rest.drop 64, last := v.last, written := v.written }
    ⟨List.length_take_le _ _, fun h => List.drop_eq_nil_of_le (by rw [List.length_take] at h; omega)⟩ h
    (channelsAbove_suffix v.last) rfl
  rw [← List.append_assoc (List.take 64 v.rest), List.take_append_drop, ← State.bodyLeft_eq] at hbytes
  obtain ⟨htake, hdrop⟩ := take_drop_of_append hbytes hlen hrest
  exact ⟨p, hfill, htake, hdrop, hwritten⟩

/-! ### The page writes of a save (R148, R149) -/

section
variable {v : SaveState} {t : Target} {data : List Byte} {store : List Host.Cell} (hh : s.held = false)
  (hc : s.ctl = .saving v) (hw : s.writes data store)
include hh hc hw

/-- INVALIDATE_WRITE_COMPLETION: the bytes are in the store and the first page is assembled (R148). -/
theorem exec_invalidateWriteCompletion (hv : v.stage = .invalidate t) :
    exec .invalidateWriteCompletion s = .next (State.assemble { s with store := store, port := none } t v) := by
  refine congrArg Host.Outcome.next ((State.awake_running hh _).trans ?_)
  simp only [State.invalidateDone, hc, State.writeDone_of hw, hv]

/-- BODY_WRITE_COMPLETION: the bytes are in the store and the next page is assembled (R149). -/
theorem exec_bodyWriteCompletion (hv : v.stage = .body t) :
    exec .bodyWriteCompletion s = .next
      (State.assemble { s with store := store, port := none } t { v with done := v.done + data.length }) := by
  refine congrArg Host.Outcome.next ((State.awake_running hh _).trans ?_)
  simp only [State.bodyDone, hc, State.writeDone_of hw, State.writeLength_of hw, hv]

end

/-- With nothing left the header is written with a zero marker (R151). -/
theorem State.assemble_header {v : SaveState} (h : s.bodySound v) (hleft : s.bodyLeft v = []) (t : Target) :
    s.assemble t v = s.beginHeader t v := by
  obtain ⟨p, hp, hbytes, -, -⟩ := State.nextPage_of_sound h
  unfold State.assemble
  rw [hp]
  exact if_pos (by rw [hbytes, hleft]; rfl)

/-- With bytes left the next 64 of them are written, or those that there are (R149). -/
theorem State.assemble_page {v : SaveState} (h : s.bodySound v) (hleft : s.bodyLeft v ≠ []) (t : Target) :
    ∃ w : SaveState,
      s.assemble t v =
        { s with
          ctl := .saving w
          port := some { address := t.area.base + 64 + v.done, kind := .write ((s.bodyLeft v).take 64)
                         finishing := false, ticks := 0 } } ∧
      w.stage = .body t ∧ w.epoch = v.epoch ∧ w.done = v.done ∧ s.bodyLeft w = (s.bodyLeft v).drop 64 ∧
      w.written ++ s.channelsLeft w.last = v.written ++ s.channelsLeft v.last := by
  obtain ⟨p, hp, hbytes, hrest, hwritten⟩ := State.nextPage_of_sound h
  refine ⟨{ v with stage := .body t, rest := p.rest, last := p.last, written := p.written }, ?_, rfl, rfl, rfl,
    (s.bodyLeft_eq _).trans hrest, hwritten⟩
  have hpage : ¬ p.bytes.isEmpty = true := by
    rw [hbytes, List.isEmpty_iff, List.take_eq_nil_iff]
    simpa using hleft
  unfold State.assemble
  rw [hp, ← hbytes]
  exact if_neg hpage

/-- Settles O40: both completions assemble the next page of what is left, or begin the header. -/
theorem saveWritesTheBodyInPages : Obligations.SaveWritesTheBodyInPages := by
  intro v t data store s hh hc hw hsound pages
  have assembled {event : Instr} {completed : Nat}
      (hrun : exec event s = .next
        (State.assemble { s with store := store, port := none } t { v with done := completed })) :
      pages event completed := by
    have hsound' : State.bodySound { s with store := store, port := none } { v with done := completed } := hsound
    refine ⟨fun hleft => ?_, fun hleft => ?_⟩
    · rw [hrun, State.assemble_header hsound' hleft]
      rfl
    · obtain ⟨w, hw, hstate⟩ := State.assemble_page hsound' hleft t
      exact ⟨w, hrun.trans (congrArg Host.Outcome.next hw), hstate⟩
  exact ⟨fun hv => assembled (exec_invalidateWriteCompletion hh hc hw hv),
    fun hv => assembled (exec_bodyWriteCompletion hh hc hw hv)⟩

end

end Sys2Proof.Machine

namespace Sys2Proof.Machine

section
variable {s : State}

/-! ### A damaged record (R150) -/

section
variable {c : Channel} {i : SlotIdx} {cs : List Channel} {p : Page} (h : p.bytes.length < 64)
  (hb : s.boundSlot c = some i)
include h hb

/-- A record that is not ACTIVE ends the save and is not checked again (R150). -/
theorem State.fillPage_inactive (ha : (s.slot i).state ≠ .active) : s.fillPage (c :: cs) p = .corrupt c none :=
  (State.fillPage_bound h hb).trans (if_pos ha)

/-- A record that fails its content check ends the save, and the mismatch is found here (R150). -/
theorem State.fillPage_unsound (ha : (s.slot i).state = .active) (hs : ¬ contentSound (s.slot i).content = true) :
    s.fillPage (c :: cs) p = .corrupt c (some i) :=
  (State.fillPage_bound h hb).trans ((if_neg (not_not_intro ha)).trans (if_pos (by simpa using hs)))

end

/-- An assembly event comes to the BOUND channel whose predecessors are sound and leave room in the page (R149,
R150). -/
theorem State.fillPage_reaches {c : Channel} {after : List Channel} (cs before : List Channel) (p : Page)
    (hcs : s.boundIn cs = before ++ c :: after) (hsound : s.recordsSound before)
    (hroom : (p.bytes ++ before.flatMap s.imageOf).length < 64) :
    ∃ (p' : Page) (cs' : List Channel), p'.bytes.length < 64 ∧ s.fillPage cs p = s.fillPage (c :: cs') p' := by
  induction cs generalizing before p with
  | nil => exact absurd hcs (by simp [State.boundIn])
  | cons d cs ih =>
    have hpage : p.bytes.length < 64 := lt_of_le_of_lt (by simp) hroom
    cases hb : s.boundSlot d with
    | none =>
      rw [State.fillPage_unbound hb]
      exact ih before p ((State.boundIn_unbound hb cs).symm.trans hcs) hsound hroom
    | some j =>
      rw [State.boundIn_bound hb] at hcs
      cases before with
      | nil =>
        obtain ⟨rfl, -⟩ := List.cons.inj hcs
        exact ⟨p, cs, hpage, rfl⟩
      | cons b before =>
        obtain ⟨rfl, hrest⟩ := List.cons.inj hcs
        obtain ⟨hactive, hcrc⟩ := hsound d List.mem_cons_self j hb
        rw [List.flatMap_cons, State.imageOf_bound hb, ← List.append_assoc] at hroom
        have hfits : (p.add d (recordImage (s.slot j).content)).bytes = p.bytes ++ recordImage (s.slot j).content :=
          Page.add_fitting (by rw [← List.length_append]; exact (lt_of_le_of_lt (by simp) hroom).le)
        rw [State.fillPage_sound hpage hb hactive hcrc]
        exact ih before _ hrest (fun e he => hsound e (List.mem_cons_of_mem d he)) (hfits ▸ hroom)

/-- An assembly event that meets a damaged record, before which the records are sound and the page has room (R150). -/
theorem State.nextPage_damaged {v : SaveState} {before after : List Channel} {c : Channel} {i : SlotIdx}
    (hleft : s.channelsLeft v.last = before ++ c :: after) (hsound : s.recordsSound before)
    (hroom : (v.rest ++ before.flatMap s.imageOf).length < 64) (hb : s.boundSlot c = some i) :
    ((s.slot i).state ≠ .active → s.nextPage v = .corrupt c none) ∧
      ((s.slot i).state = .active → ¬ contentSound (s.slot i).content = true →
        s.nextPage v = .corrupt c (some i)) := by
  have htake : v.rest.take 64 = v.rest := List.take_of_length_le (lt_of_le_of_lt (by simp) hroom).le
  obtain ⟨p, cs, hpage, hreach⟩ := State.fillPage_reaches (channelsAbove v.last) before
    { bytes := v.rest.take 64, rest := v.rest.drop 64, last := v.last, written := v.written } hleft hsound
    (htake.symm ▸ hroom)
  exact ⟨fun ha => hreach.trans (State.fillPage_inactive hpage hb ha),
    fun ha hs => hreach.trans (State.fillPage_unsound hpage hb ha hs)⟩

/-- A damaged record that was found before ends the save FAILED_CORRUPT (R150, R152). -/
theorem State.assemble_corrupt {v : SaveState} {c : Channel} (h : s.nextPage v = .corrupt c none) (t : Target) :
    s.assemble t v = State.withRepair
      { s with ctl := .idle, causes := s.causes ||| 0b010#3, lastSave := .failedCorrupt c t.area v.done } := by
  rw [State.assemble, h]
  exact State.endSave_eq s _

/-- A damaged record found here has the four effects of a mismatch too (R150, R152, R176). -/
theorem State.assemble_mismatch {v : SaveState} {c : Channel} {i : SlotIdx} (h : s.nextPage v = .corrupt c (some i))
    (hl : s.bindingLaw) (hb : (s.entry c).binding = .bound i) (t : Target) :
    s.assemble t v = State.withRepair
      { (s.setSlot i { s.slot i with state := .suspect }).setReasons c (s.reasonsOf c ||| suspectBit) with
        mismatches := if s.mismatches < 255 then s.mismatches + 1 else 255
        repairQueue := if c ∈ s.repairQueue ∨ 8 ≤ s.repairQueue.length then s.repairQueue
                       else s.repairQueue ++ [c]
        ctl := .idle, causes := s.causes ||| 0b010#3, lastSave := .failedCorrupt c t.area v.done } := by
  rw [State.assemble, h]
  simp only
  rw [State.mismatch_eq hl hb]
  exact State.endSave_eq _ _

/-! ### The header writes of a save, and its silences (R143, R151, R152) -/

section
variable {v : SaveState} {t : Target} {data : List Byte} {store : List Host.Cell} (hh : s.held = false)
  (hc : s.ctl = .saving v) (hw : s.writes data store)
include hh hc hw

/-- HEADER_WRITE_COMPLETION: the marker is written (R151). -/
theorem exec_headerWriteCompletion (hv : v.stage = .header t) :
    exec .headerWriteCompletion s = .next
      { s with
        store := store, ctl := .saving { v with stage := .marker t }
        port := some { address := t.area.base, kind := .write markerBytes, finishing := false, ticks := 0 } } := by
  refine congrArg Host.Outcome.next ((State.awake_running hh _).trans ?_)
  simp only [State.headerDone, hc, State.writeDone_of hw, hv]
  rfl

/-- MARKER_WRITE_COMPLETION: the save ends DONE (R151, R152). -/
theorem exec_markerWriteCompletion (hv : v.stage = .marker t) :
    exec .markerWriteCompletion s = .next (State.withRepair
      { s with
        store := store, port := none, ctl := .idle, causes := s.causes ||| 0b010#3
        lastSave := .done t.area t.generation v.epoch v.written.length v.done }) := by
  refine congrArg Host.Outcome.next ((State.awake_running hh _).trans ?_)
  simp only [State.markerDone, hc, State.writeDone_of hw, hv]
  exact State.endSave_eq _ _

end

/-- The end of a save spares the step timer (R146, R152). -/
theorem endSave_sparesStepTimer (o : SaveOutcome) : sparesStepTimer fun s => s.endSave o :=
  startRepair_sparesStepTimer.comp fun _ => ⟨rfl, fun _ => rfl⟩

/-- SAVE_STORE_SILENCE: the save ends FAILED_STORE (R143, R152). -/
theorem exec_saveStoreSilence {v : SaveState} (hc : s.ctl = .saving v) {p : Transfer} (hs : s.silentTick p)
    (hf : p.finishing = false) (took : Bool) :
    exec (.saveStoreSilence took) s = .next (State.withRepair
      { s.ticked with
        ctl := .idle, causes := s.causes ||| 0b010#3, store := p.silentStore took s.store
        lastSave := .failedStore v.stage.phase v.stage.area v.done }) := by
  have hdue : s.silenceDue false = true := hf ▸ State.silenceDue_of hs
  have hsaving : s.isSaving = true := by rw [State.isSaving, hc]
  refine congrArg Host.Outcome.next ((if_pos (by rw [hsaving, hdue]; rfl)).trans ?_)
  refine Eq.trans ?_ (State.endSave_eq { s.ticked with store := p.silentStore took s.store } _)
  refine State.tick_silent_told hs took (f := fun s => s.saveSilent v) (endSave_sparesStepTimer _) fun t ht => ?_
  have hctl : (t.afterSilence p took).ctl = .saving v := by
    rw [State.afterSilence_eq]
    exact ht.trans hc
  simp only [State.silence, hf, hctl, Bool.false_eq_true, if_false]

/-- Settles O41: the header writes and the silences, then an assembly event that comes to a damaged record. -/
theorem saveEndsDoneOrFailed : Obligations.SaveEndsDoneOrFailed := by
  refine ⟨⟨fun v t data store s hh hc hw => ⟨fun hv => ?_, fun hv => ?_⟩, fun v p took s hs hf hc => ?_⟩,
    fun v t data store before after c i s hh hc hw hl hleft hsound hroom hb => ?_⟩
  · exact exec_headerWriteCompletion hh hc hw hv
  · exact exec_markerWriteCompletion hh hc hw hv
  · exact ⟨_, exec_saveStoreSilence hc hs hf took, fun h => h ▸ p.silentStore_not_taken s.store,
      fun n hk => Transfer.silentStore_read hk took s.store,
      fun data hk => Transfer.silentStore_write hk took s.store⟩
  · intro failed
    have hsound : s.recordsSound before := fun d hd j hj =>
      (hsound d hd j ((s.boundSlot_iff d j).1 hj)).imp_right (contentSound_iff _).2
    have himages : before.flatMap s.imageOf = before.flatMap fun d =>
        match (s.entry d).binding with
        | .bound j => recordImage (s.slot j).content
        | .unassigned | .lost => [] := congrArg before.flatMap (funext s.imageOf_entry)
    have hroom : (v.rest ++ before.flatMap s.imageOf).length < 64 := by
      rw [himages]
      exact hroom
    have fails {event : Instr} {completed : Nat}
        (hrun : exec event s = .next
          (State.assemble { s with store := store, port := none } t { v with done := completed })) :
        failed event completed := by
      obtain ⟨hinactive, hunsound⟩ := State.nextPage_damaged (s := { s with store := store, port := none })
        (v := { v with done := completed }) hleft hsound hroom ((s.boundSlot_iff c i).2 hb)
      refine ⟨fun hsuspect => ?_, fun hactive hcrc => ?_⟩
      · have hcorrupt := hinactive fun h => absurd (hsuspect.symm.trans h) (by decide)
        exact hrun.trans (congrArg Host.Outcome.next (State.assemble_corrupt hcorrupt t))
      · have hcorrupt := hunsound hactive (mt (contentSound_iff _).1 hcrc)
        exact hrun.trans (congrArg Host.Outcome.next (State.assemble_mismatch hcorrupt hl hb t))
    exact ⟨fun hv => fails (exec_invalidateWriteCompletion hh hc hw hv),
      fun hv => fails (exec_bodyWriteCompletion hh hc hw hv)⟩

end

end Sys2Proof.Machine

namespace Sys2Proof.Machine

/-! ### Items of two, three and four bytes (chapter 12) -/

/-- The two bytes of an item give it back. -/
theorem join16_be16 (v : Half) : join16 (v.extractLsb' 8 8) (v.extractLsb' 0 8) = v :=
  BitVec.extractLsb'_append_extractLsb'

/-- The three bytes of an item give it back. -/
theorem join24_be24 (v : Val24) : join24 (v.extractLsb' 16 8) (v.extractLsb' 8 8) (v.extractLsb' 0 8) = v := by
  have hhigh : v.extractLsb' 16 8 ++ v.extractLsb' 8 8 = v.extractLsb' 8 16 :=
    BitVec.extractLsb'_append_extractLsb'_eq_extractLsb' rfl
  rw [join24, hhigh]
  exact BitVec.extractLsb'_append_extractLsb'

/-- The four bytes of an item give it back. -/
theorem join32_be32 (v : Word) :
    join32 (v.extractLsb' 24 8) (v.extractLsb' 16 8) (v.extractLsb' 8 8) (v.extractLsb' 0 8) = v := by
  have hhigh : v.extractLsb' 24 8 ++ v.extractLsb' 16 8 = v.extractLsb' 16 16 :=
    BitVec.extractLsb'_append_extractLsb'_eq_extractLsb' rfl
  have hmiddle : v.extractLsb' 16 16 ++ v.extractLsb' 8 8 = v.extractLsb' 8 24 :=
    BitVec.extractLsb'_append_extractLsb'_eq_extractLsb' rfl
  rw [join32, hhigh, hmiddle]
  exact BitVec.extractLsb'_append_extractLsb'

/-- The value of a byte string, its most significant byte first (chapter 12). -/
def numberOf (bs : List Byte) : Nat := bs.foldl (fun n b => 256 * n + b.toNat) 0

/-- A byte below the bits that were there. -/
theorem toNat_append_byte {n : Nat} (x : BitVec n) (b : Byte) : (x ++ b).toNat = 256 * x.toNat + b.toNat := by
  rw [BitVec.toNat_append, ← Nat.shiftLeft_add_eq_or_of_lt b.isLt, Nat.shiftLeft_eq, Nat.mul_comm]

/-- A 2-byte item has the value of its bytes. -/
theorem toNat_join16 (b1 b0 : Byte) : (join16 b1 b0).toNat = numberOf [b1, b0] := by
  simp only [join16, toNat_append_byte, numberOf, List.foldl_cons, List.foldl_nil, Nat.mul_zero, Nat.zero_add]

/-- A 3-byte item has the value of its bytes. -/
theorem toNat_join24 (b2 b1 b0 : Byte) : (join24 b2 b1 b0).toNat = numberOf [b2, b1, b0] := by
  simp only [join24, toNat_append_byte, numberOf, List.foldl_cons, List.foldl_nil, Nat.mul_zero, Nat.zero_add]

/-- A 4-byte item has the value of its bytes. -/
theorem toNat_join32 (b3 b2 b1 b0 : Byte) : (join32 b3 b2 b1 b0).toNat = numberOf [b3, b2, b1, b0] := by
  simp only [join32, toNat_append_byte, numberOf, List.foldl_cons, List.foldl_nil, Nat.mul_zero, Nat.zero_add]

/-- A byte string has value 0 when each of its bytes is 00h. -/
theorem numberOf_eq_zero_iff (bs : List Byte) : numberOf bs = 0 ↔ bs = List.replicate bs.length 0#8 := by
  have hfold (n : Nat) : bs.foldl (fun n b => 256 * n + b.toNat) n = 0 ↔ n = 0 ∧ ∀ b ∈ bs, b = 0#8 := by
    induction bs generalizing n with
    | nil => simp
    | cons b bs ih =>
      have hb : b.toNat = 0 ↔ b = 0#8 := BitVec.toNat_inj (y := 0#8)
      rw [List.foldl_cons, ih, List.forall_mem_cons, ← hb, ← and_assoc]
      refine and_congr_left' ⟨fun h => ?_, fun h => ?_⟩ <;> omega
  rw [numberOf, hfold, List.eq_replicate_iff]
  simp

/-- The two bytes of an item are the only ones that give it. -/
theorem eq_be16_iff (b1 b0 : Byte) (v : Half) : [b1, b0] = be16 v ↔ join16 b1 b0 = v := by
  refine ⟨fun h => ?_, fun h => ?_⟩
  · obtain ⟨rfl, hrest⟩ := List.cons.inj h
    obtain ⟨rfl, -⟩ := List.cons.inj hrest
    exact join16_be16 v
  · subst h
    have hhigh : (b1 ++ b0).extractLsb' 8 8 = b1 := BitVec.extractLsb'_append_eq_left
    have hlow : (b1 ++ b0).extractLsb' 0 8 = b0 := BitVec.extractLsb'_append_eq_right
    rw [be16, join16, hhigh, hlow]

/-! ### Items inside a byte string -/

/-- The bytes of a stretch of a byte string that holds it. -/
theorem take_drop_eq_bytes {bs : List Byte} {i n : Nat} (h : i + n ≤ bs.length) :
    (bs.drop i).take n = (List.range n).map fun j => byteAt bs (i + j) := by
  refine List.ext_getElem (by simp; omega) fun j h1 h2 => ?_
  have hj : i + j < bs.length := by simp at h2; omega
  simp [byteAt, hj]

/-- The 2-byte item at an offset has the value of its bytes. -/
theorem toNat_halfAt {bs : List Byte} {i : Nat} (h : i + 2 ≤ bs.length) :
    (halfAt bs i).toNat = numberOf ((bs.drop i).take 2) := by
  rw [take_drop_eq_bytes h]
  exact toNat_join16 _ _

/-- The 3-byte item at an offset has the value of its bytes. -/
theorem toNat_val24At {bs : List Byte} {i : Nat} (h : i + 3 ≤ bs.length) :
    (val24At bs i).toNat = numberOf ((bs.drop i).take 3) := by
  rw [take_drop_eq_bytes h]
  exact toNat_join24 _ _ _

/-- The 4-byte item at an offset has the value of its bytes. -/
theorem toNat_wordAt {bs : List Byte} {i : Nat} (h : i + 4 ≤ bs.length) :
    (wordAt bs i).toNat = numberOf ((bs.drop i).take 4) := by
  rw [take_drop_eq_bytes h]
  exact toNat_join32 _ _ _ _

/-- A byte after a part of the string that is cut off. -/
theorem byteAt_drop (bs : List Byte) (i j : Nat) : byteAt (bs.drop i) j = byteAt bs (i + j) := by
  simp [byteAt, List.getD_eq_getElem?_getD]

/-- A byte of the part kept. -/
theorem byteAt_take {bs : List Byte} {n j : Nat} (h : j < n) : byteAt (bs.take n) j = byteAt bs j := by
  simp [byteAt, List.getD_eq_getElem?_getD, h]

/-- A byte after a first part of `n` bytes. -/
theorem byteAt_append {front bs : List Byte} {n : Nat} (h : front.length = n) (j : Nat) :
    byteAt (front ++ bs) (n + j) = byteAt bs j := by
  subst h
  simp [byteAt, List.getD_eq_getElem?_getD, List.getElem?_append_right]

/-- The 2-byte item after a first part of `n` bytes. -/
theorem halfAt_append {front : List Byte} {n : Nat} (h : front.length = n) (v : Half) :
    halfAt (front ++ be16 v) n = v := by
  have hfirst : byteAt (front ++ be16 v) n = byteAt (be16 v) 0 := byteAt_append h 0
  rw [halfAt, hfirst, byteAt_append h 1]
  exact join16_be16 v

/-! ### The presence map (R138, R206) -/

/-- The bit of the map's byte that marks a channel (R206). -/
theorem mark_getLsbD (m i : Nat) (hi : i < 8) : (1#8 <<< m).getLsbD i = decide (m = i) := by
  simp only [BitVec.getLsbD_shiftLeft, BitVec.getLsbD_one]
  rw [Bool.eq_iff_iff]
  simp
  omega

/-- The bits of a byte that marks are put into, one after another (R206). -/
theorem marks_getLsbD (cs : List Channel) (b : Byte) (i : Nat) (hi : i < 8) :
    (cs.foldl (fun b c => b ||| (1#8 <<< (7 - c.val % 8))) b).getLsbD i =
      (b.getLsbD i || cs.any fun c => decide (7 - c.val % 8 = i)) := by
  induction cs generalizing b with
  | nil => simp
  | cons c cs ih => rw [List.foldl_cons, ih, BitVec.getLsbD_or, mark_getLsbD _ _ hi, List.any_cons, Bool.or_assoc]

/-- The map's bit of a channel is set for the channels written (R206). -/
theorem presenceByte_getLsbD (cs : List Channel) (c : Channel) :
    (presenceByte cs (c.val / 8)).getLsbD (7 - c.val % 8) = true ↔ c ∈ cs := by
  rw [presenceByte, marks_getLsbD _ _ _ (by omega), BitVec.getLsbD_zero, Bool.false_or]
  simp only [List.any_eq_true, List.mem_filter, beq_iff_eq, decide_eq_true_eq]
  refine ⟨fun ⟨d, ⟨hd, hbyte⟩, hbit⟩ => ?_, fun h => ⟨c, ⟨h, rfl⟩, rfl⟩⟩
  rwa [show c = d from Fin.ext (by omega)]

/-- A presence map is 32 bytes (R206). -/
theorem presenceBytes_length (cs : List Channel) : (presenceBytes cs).length = 32 := by
  simp [presenceBytes]

/-- The map's byte of a channel (R206). -/
theorem byteAt_presenceBytes (cs : List Channel) (c : Channel) :
    byteAt (presenceBytes cs) (c.val / 8) = presenceByte cs (c.val / 8) := by
  have h : c.val / 8 < 32 := by omega
  simp [byteAt, presenceBytes, h]

/-- The presence map that a save writes marks the channels written, in ascending order (R138, R206). -/
theorem presenceOfBytes_presenceBytes {cs : List Channel} (h : cs.Pairwise (· < ·)) :
    presenceOfBytes (presenceBytes cs) = cs := by
  refine List.Pairwise.eq_of_mem_iff ((List.pairwise_lt_finRange 256).filter _) h fun c => ?_
  rw [presenceOfBytes, List.mem_filter, byteAt_presenceBytes, presenceByte_getLsbD]
  simp

/-! ### Headers (R138, R140, R151) -/

/-- A header's fields take 58 bytes (R206). -/
theorem headerFields_length (generation epoch : Word) (bodyLength : Nat) (written : List Channel) :
    (headerFields generation epoch bodyLength written).length = 58 := by
  simp [headerFields, presenceBytes_length, be16, be32]

/-- The header that a save writes with a zero marker is no valid image (R151). -/
theorem parseHeader_headerImage (generation epoch : Word) (bodyLength : Nat) (written : List Channel) :
    parseHeader (headerImage generation epoch bodyLength written) = none := by
  unfold parseHeader
  rw [show (headerImage generation epoch bodyLength written).take 4 = List.replicate 4 0#8 from rfl]
  rfl

/-- The five conditions of a valid image (R140). -/
def validHeader (bs : List Byte) : Prop :=
  bs.take 4 = markerBytes ∧ headerCrc bs = halfAt bs 62 ∧ (halfAt bs 12).toNat ≤ 128 ∧
    (halfAt bs 12).toNat = (presenceOfBytes ((bs.drop 18).take 32)).length ∧ (wordAt bs 14).toNat ≤ Config.maxBody

/-- Where a condition fails there is no valid image (R140). -/
theorem parseHeader_none {bs : List Byte} (h : ¬ validHeader bs) : parseHeader bs = none := by
  refine if_neg (mt (fun hv => ?_) h)
  simpa only [validHeader, Bool.and_eq_true, beq_iff_eq, decide_eq_true_eq, and_assoc] using hv

/-- Where all hold the image carries the fields read (R138, R140). -/
theorem parseHeader_some {bs : List Byte} (h : validHeader bs) :
    parseHeader bs = some
      { generation := wordAt bs 4, epoch := wordAt bs 8, count := (halfAt bs 12).toNat
        bodyLength := (wordAt bs 14).toNat, presence := presenceOfBytes ((bs.drop 18).take 32) } := by
  refine if_pos ?_
  simpa only [validHeader, Bool.and_eq_true, beq_iff_eq, decide_eq_true_eq, and_assoc] using h

section
variable (generation epoch : Word) (bodyLength : Nat) (written : List Channel)

/-- A header with its marker written (R151). -/
def writtenHeader : List Byte :=
  markerBytes ++ headerFields generation epoch bodyLength written ++
    be16 (deviceCrc (markerBytes ++ headerFields generation epoch bodyLength written))

/-- The marker write puts the marker in the place of the zero bytes (R151). -/
theorem writtenHeader_eq :
    markerBytes ++ (headerImage generation epoch bodyLength written).drop 4 =
      writtenHeader generation epoch bodyLength written := rfl

/-- The generation of a header (R206). -/
theorem writtenHeader_generation : wordAt (writtenHeader generation epoch bodyLength written) 4 = generation :=
  join32_be32 generation

/-- The epoch of a header (R206). -/
theorem writtenHeader_epoch : wordAt (writtenHeader generation epoch bodyLength written) 8 = epoch :=
  join32_be32 epoch

/-- The presence map of a header (R206). -/
theorem writtenHeader_presence :
    ((writtenHeader generation epoch bodyLength written).drop 18).take 32 = presenceBytes written := by
  have hsplit : (writtenHeader generation epoch bodyLength written).drop 18 =
      presenceBytes written ++ (List.replicate 12 0#8 ++
        be16 (deviceCrc (markerBytes ++ headerFields generation epoch bodyLength written))) := by
    simp [writtenHeader, headerFields, be16, be32, markerBytes]
  rw [hsplit, List.take_left' (presenceBytes_length written)]

/-- The CRC of a header (R203, R206). -/
theorem writtenHeader_crc :
    headerCrc (writtenHeader generation epoch bodyLength written) =
      halfAt (writtenHeader generation epoch bodyLength written) 62 := by
  have hlength := headerFields_length generation epoch bodyLength written
  have hfirst : (markerBytes ++ headerFields generation epoch bodyLength written).length = 62 := by
    rw [List.length_append, hlength]
    rfl
  rw [headerCrc, writtenHeader, halfAt_append hfirst, List.append_assoc,
    List.drop_left' (show markerBytes.length = 4 from rfl), List.take_left' hlength]

variable {bodyLength written}

/-- The record count of a header (R206). -/
theorem writtenHeader_count (h : written.length ≤ 128) :
    (halfAt (writtenHeader generation epoch bodyLength written) 12).toNat = written.length := by
  have hcount : halfAt (writtenHeader generation epoch bodyLength written) 12 = BitVec.ofNat 16 written.length :=
    join16_be16 _
  rw [hcount, BitVec.toNat_ofNat, Nat.mod_eq_of_lt (by omega)]

/-- The body length of a header (R206). -/
theorem writtenHeader_bodyLength (h : bodyLength ≤ 32704) :
    (wordAt (writtenHeader generation epoch bodyLength written) 14).toNat = bodyLength := by
  have hlength : wordAt (writtenHeader generation epoch bodyLength written) 14 = BitVec.ofNat 32 bodyLength :=
    join32_be32 _
  rw [hlength, BitVec.toNat_ofNat, Nat.mod_eq_of_lt (by omega)]

/-- A header that a save has written is valid and reads back with every field (R138, R140, R206). -/
theorem parseHeader_writtenHeader (hsorted : written.Pairwise (· < ·)) (hcount : written.length ≤ 128)
    (hbody : bodyLength ≤ 32704) :
    parseHeader (writtenHeader generation epoch bodyLength written) =
      some { generation, epoch, count := written.length, bodyLength, presence := written } := by
  have hpresence := presenceOfBytes_presenceBytes hsorted
  rw [← writtenHeader_presence generation epoch bodyLength written] at hpresence
  have hn := writtenHeader_count generation epoch (bodyLength := bodyLength) hcount
  have hlen := writtenHeader_bodyLength generation epoch (written := written) hbody
  have hvalid : validHeader (writtenHeader generation epoch bodyLength written) :=
    ⟨rfl, writtenHeader_crc _ _ _ _, hn.trans_le hcount, hn.trans (congrArg List.length hpresence).symm,
      hlen.trans_le hbody⟩
  rw [parseHeader_some hvalid, writtenHeader_generation, writtenHeader_epoch, hn, hlen, hpresence]

end

end Sys2Proof.Machine

namespace Sys2Proof.Machine

/-! ### Which 64 bytes are the header of a valid image (R140) -/

/-- The presence map inside a header (R206). -/
theorem presenceOfBytes_slice (bs : List Byte) :
    presenceOfBytes ((bs.drop 18).take 32) =
      (List.finRange 256).filter fun c => (bs.getD (18 + c.val / 8) 0#8).getLsbD (7 - c.val % 8) := by
  refine List.filter_congr fun c _ => ?_
  rw [byteAt_take (by omega), byteAt_drop]
  rfl

/-- With its marker written, a header's CRC is that of its first 62 bytes (R203). -/
theorem headerCrc_of_marker {bs : List Byte} (h : bs.take 4 = markerBytes) :
    headerCrc bs = deviceCrc (bs.take 62) := by
  rw [headerCrc, ← h, ← List.take_add]

/-- The CRC condition on a header's last two bytes (R140, R203). -/
theorem headerCrc_eq_iff {bs : List Byte} (hlen : bs.length = 64) (h : bs.take 4 = markerBytes) :
    headerCrc bs = halfAt bs 62 ↔ bs.drop 62 = be16 (deviceCrc (bs.take 62)) := by
  have hlast : bs.drop 62 = [byteAt bs 62, byteAt bs 63] :=
    (List.take_of_length_le (by simp [hlen])).symm.trans (take_drop_eq_bytes (n := 2) hlen.ge)
  rw [headerCrc_of_marker h, hlast, eq_be16_iff]
  exact eq_comm

/-- The five conditions of R140 on the bytes themselves. -/
theorem validHeader_iff {bs : List Byte} (hlen : bs.length = 64) :
    validHeader bs ↔
      bs.take 4 = markerBytes ∧ bs.drop 62 = be16 (deviceCrc (bs.take 62)) ∧
        numberOf ((bs.drop 12).take 2) ≤ 128 ∧
        numberOf ((bs.drop 12).take 2) =
          ((List.finRange 256).filter fun c => (bs.getD (18 + c.val / 8) 0#8).getLsbD (7 - c.val % 8)).length ∧
        numberOf ((bs.drop 14).take 4) ≤ 32704 := by
  rw [validHeader, toNat_halfAt (by omega), toNat_wordAt (by omega), presenceOfBytes_slice]
  refine and_congr_right fun hmarker => ?_
  rw [headerCrc_eq_iff hlen hmarker]
  rfl

/-! ### The mode byte (R206) -/

/-- Five marks in the bits of a byte (R206). -/
theorem marks_of_five (a b c d e : Bool) :
    let m := flagByte a ||| (flagByte b <<< 1) ||| (flagByte c <<< 2) ||| (flagByte d <<< 3) ||| (flagByte e <<< 4)
    m.getLsbD 0 = a ∧ m.getLsbD 1 = b ∧ m.getLsbD 2 = c ∧ m.getLsbD 3 = d ∧ m.getLsbD 4 = e ∧
      m.extractLsb' 5 3 = 0#3 := by
  revert a b c d e
  decide

/-- What the bits of a record's mode byte mark (R206). -/
theorem modeByte_bits (c : Content) :
    (modeByte c).getLsbD 0 = (c.format == .s16) ∧ (modeByte c).getLsbD 1 = (c.endMode == .extend) ∧
      (modeByte c).getLsbD 2 = (c.action == .block) ∧ (modeByte c).getLsbD 3 = c.limits.isSome ∧
      (modeByte c).getLsbD 4 = c.due.isSome ∧ (modeByte c).extractLsb' 5 3 = 0#3 := by
  have hformat : formatCode c.format = flagByte (c.format == .s16) := by cases c.format <;> rfl
  have hmode : endModeCode c.endMode = flagByte (c.endMode == .extend) := by cases c.endMode <;> rfl
  have haction : actionCode c.action = flagByte (c.action == .block) := by cases c.action <;> rfl
  rw [modeByte, hformat, hmode, haction]
  exact marks_of_five _ _ _ _ _

/-- Bits 5 to 7 of a mode byte are 0 exactly when it lies below 32 (R167, R206). -/
theorem highBits_eq_zero_iff (mode : Byte) : mode.extractLsb' 5 3 = 0#3 ↔ mode.toNat < 32 := by
  rw [← BitVec.toNat_inj, BitVec.extractLsb'_toNat, Nat.shiftRight_eq_div_pow, BitVec.toNat_ofNat]
  omega

/-! ### The record image that a save writes reads back (R139, R168, R206) -/

/-- The channel of a byte is the channel that the byte was made of. -/
theorem channelOfByte_byteOfChannel (c : Channel) : channelOfByte (byteOfChannel c) = c :=
  Fin.ext (Nat.mod_eq_of_lt c.isLt)

/-- A count below 256 reads back. -/
theorem toNat_byteOf {n : Nat} (h : n < 256) : (byteOf n).toNat = n :=
  (BitVec.toNat_ofNat n 8).trans (Nat.mod_eq_of_lt h)

/-- The first 18 bytes of a record image (R206). -/
def recordHeadBytes (c : Content) : List Byte := imageHead c ++ be16 (contentCrc c)

/-- A record image begins with its head (R206). -/
theorem recordImage_take (c : Content) : (recordImage c).take 18 = recordHeadBytes c :=
  List.take_left' (l₁ := recordHeadBytes c) rfl

/-- After its head a record image is its tail (R206). -/
theorem recordImage_drop (c : Content) : (recordImage c).drop 18 = imageTail c :=
  List.drop_left' (l₁ := recordHeadBytes c) rfl

/-- The points of a list take five bytes each (R204). -/
theorem pointsBytes_length (points : List Point) : (points.flatMap pointBytes).length = 5 * points.length := by
  have hpoint : ∀ p, (pointBytes p).length = 5 := fun _ => rfl
  simp [List.length_flatMap, hpoint, mul_comm]

/-- A record image has 18 + L + 5n bytes (R139). -/
theorem recordImage_length_eq (c : Content) :
    (recordImage c).length = 18 + c.label.length + 5 * c.points.length := by
  have hhead : (imageHead c ++ be16 (contentCrc c)).length = 18 := rfl
  rw [recordImage, List.length_append, hhead, imageTail, List.length_append, pointsBytes_length, Nat.add_assoc]

/-- The points of a list read back (R204). -/
theorem pointsOfBytes_flatMap (points : List Point) : pointsOfBytes (points.flatMap pointBytes) = points := by
  induction points with
  | nil => rfl
  | cons p points ih =>
    rw [List.flatMap_cons]
    show { x := join16 _ _, y := join24 _ _ _ : Point } :: pointsOfBytes (points.flatMap pointBytes) = _
    rw [join16_be16, join24_be24, ih]

section
variable {c : Content}

/-- A record's head reads back (R206). -/
theorem decodeHead_recordHeadBytes (hpoints : c.points.length < 256) (hlabel : c.label.length < 256) :
    decodeHead (recordHeadBytes c) =
      { channel := c.channel, revision := c.revision, mode := modeByte c, count := c.points.length
        labelLen := c.label.length, low := (c.limits.map Limits.low).getD 0#24
        high := (c.limits.map Limits.high).getD 0#24, due := c.due.getD 0#32, crc := contentCrc c } := by
  rw [decodeHead, RecordHead.mk.injEq]
  exact ⟨channelOfByte_byteOfChannel c.channel, join16_be16 _, rfl, toNat_byteOf hpoints, toNat_byteOf hlabel,
    join24_be24 _, join24_be24 _, join32_be32 _, join16_be16 _⟩

/-- The CRC of a record image is its content's (R166, R203). -/
theorem imageCrc_recordImage (c : Content) : imageCrc (recordHeadBytes c) (imageTail c) = contentCrc c := by
  rw [imageCrc, recordHeadBytes, List.take_left' (show (imageHead c).length = 16 from rfl)]
  rfl

/-- A record image decodes to the content that it was made of, with the CRC computed (R139, R168). -/
theorem decodeRecord_recordImage (hpoints : c.points.length < 256) (hlabel : c.label.length < 256) :
    decodeRecord (recordHeadBytes c) (imageTail c) = { c with crc := contentCrc c } := by
  obtain ⟨hformat, hmode, haction, hlimits, hdue, -⟩ := modeByte_bits c
  rw [decodeRecord, decodeHead_recordHeadBytes hpoints hlabel]
  simp only [hformat, hmode, haction, hlimits, hdue, imageTail, List.take_left, List.drop_left, pointsOfBytes_flatMap,
    List.take_length]
  obtain ⟨channel, revision, format, mode, action, points, limits, due, label, crc⟩ := c
  rw [Content.mk.injEq]
  refine ⟨rfl, rfl, ?_, ?_, ?_, rfl, ?_, ?_, rfl, rfl⟩
  · cases format <;> rfl
  · cases mode <;> rfl
  · cases action <;> rfl
  · cases limits <;> rfl
  · cases due <;> rfl

/-- A record image of a content that passes the field rules passes the field checks (R139, R167). -/
theorem fieldsValid_recordImage (htwo : 2 ≤ c.points.length) (hpoints : c.points.length ≤ 32)
    (hlabel : c.label.length ≤ 15) (hchars : ∀ b ∈ c.label, printable b = true) (hordered : contentOrdered c = true)
    (hlimits : contentLimitsOk c = true) (hdue : c.due ≠ some 0#32) :
    fieldsValid (recordHeadBytes c) (imageTail c) = true := by
  obtain ⟨-, -, -, -, -, hhigh⟩ := modeByte_bits c
  have hordered' : contentOrdered { c with crc := contentCrc c } = true := hordered
  have hlimits' : contentLimitsOk { c with crc := contentCrc c } = true := hlimits
  have hnolimits : (c.limits.isSome || ((c.limits.map Limits.low).getD 0#24 == 0#24 &&
      (c.limits.map Limits.high).getD 0#24 == 0#24)) = true := by cases c.limits <;> rfl
  have hnodue : (c.due.isSome || c.due.getD 0#32 == 0#32) = true := by cases c.due <;> rfl
  rw [fieldsValid, decodeHead_recordHeadBytes (by omega) (by omega), decodeRecord_recordImage (by omega) (by omega)]
  simp only [hhigh, hordered', hlimits', hnolimits, hnodue, htwo, hpoints, hlabel, List.all_eq_true.2 hchars,
    decide_true, beq_self_eq_true, Bool.and_self, Bool.and_true, bne_iff_ne, ne_eq, hdue, not_false_eq_true,
    Bool.true_and]

end

end Sys2Proof.Machine

namespace Sys2Proof.Machine

/-! ### Which record images have valid fields (R167) -/

/-- A tabulated list is increasing when neighbours are in order. -/
theorem increasing_map_range (x : Nat → Int) (n : Nat) :
    increasing ((List.range n).map x) = true ↔ ∀ j, j + 1 < n → x j < x (j + 1) := by
  rw [increasing_iff_isChain, List.isChain_map, List.isChain_range]
  simp only [Nat.lt_sub_iff_add_lt, Nat.succ_eq_add_one]

/-- The points of a byte string of five bytes each, by their places. -/
theorem pointsOfBytes_eq_map (n : Nat) (bs : List Byte) (h : bs.length = 5 * n) :
    pointsOfBytes bs = (List.range n).map fun j => { x := halfAt bs (5 * j), y := val24At bs (5 * j + 2) } := by
  induction n generalizing bs with
  | zero => rw [List.length_eq_zero_iff.1 (by omega : bs.length = 0)]; rfl
  | succ n ih =>
    obtain ⟨front, rest, rfl, hfront⟩ : ∃ front rest, bs = front ++ rest ∧ front.length = 5 :=
      ⟨bs.take 5, bs.drop 5, (List.take_append_drop 5 bs).symm, by rw [List.length_take]; omega⟩
    have hrest : rest.length = 5 * n := by rw [List.length_append] at h; omega
    have hbyte (j k : Nat) : byteAt (front ++ rest) (5 * (j + 1) + k) = byteAt rest (5 * j + k) := by
      rw [show 5 * (j + 1) + k = 5 + (5 * j + k) by omega, byteAt_append hfront]
    have hpoint (j : Nat) :
        ({ x := halfAt (front ++ rest) (5 * (j + 1)), y := val24At (front ++ rest) (5 * (j + 1) + 2) } : Point) =
          { x := halfAt rest (5 * j), y := val24At rest (5 * j + 2) } := by
      rw [Point.mk.injEq]
      refine ⟨congrArg₂ join16 (hbyte j 0) (hbyte j 1), ?_⟩
      show join24 (byteAt _ (5 * (j + 1) + 2)) (byteAt _ (5 * (j + 1) + 3)) (byteAt _ (5 * (j + 1) + 4)) = _
      rw [hbyte, hbyte, hbyte]
      rfl
    rw [List.range_succ_eq_map, List.map_cons, List.map_map]
    simp only [Function.comp_def, Nat.succ_eq_add_one, hpoint]
    rw [← ih rest hrest]
    match front, hfront with
    | [x1, x0, y2, y1, y0], _ => rfl

/-- A signed 24-bit item is 0 when its three bytes are (R167). -/
theorem val24At_eq_zero_iff {bs : List Byte} {i : Nat} (h : i + 3 ≤ bs.length) :
    val24At bs i = 0#24 ↔ (bs.drop i).take 3 = List.replicate 3 0#8 := by
  have hlen : ((bs.drop i).take 3).length = 3 := by simp; omega
  rw [← BitVec.toNat_inj, toNat_val24At h, show (0#24).toNat = 0 from rfl, numberOf_eq_zero_iff, hlen]

/-- A 4-byte item is 0 when its four bytes are (R167). -/
theorem wordAt_eq_zero_iff {bs : List Byte} {i : Nat} (h : i + 4 ≤ bs.length) :
    wordAt bs i = 0#32 ↔ (bs.drop i).take 4 = List.replicate 4 0#8 := by
  have hlen : ((bs.drop i).take 4).length = 4 := by simp; omega
  rw [← BitVec.toNat_inj, toNat_wordAt h, show (0#32).toNat = 0 from rfl, numberOf_eq_zero_iff, hlen]

/-- Both limits are 0 when their six bytes are (R167). -/
theorem limits_eq_zero_iff {bs : List Byte} (h : 12 ≤ bs.length) :
    (val24At bs 6 = 0#24 ∧ val24At bs 9 = 0#24) ↔ (bs.drop 6).take 6 = List.replicate 6 0#8 := by
  have hsplit : (bs.drop 6).take 6 = (bs.drop 6).take 3 ++ (bs.drop 9).take 3 := by
    rw [show (6 : Nat) = 3 + 3 from rfl, List.take_add, List.drop_drop]
  have hlen : ((bs.drop 6).take 3).length = (List.replicate 3 (0#8 : Byte)).length := by simp; omega
  rw [val24At_eq_zero_iff (by omega), val24At_eq_zero_iff (by omega), hsplit,
    show List.replicate 6 (0#8 : Byte) = List.replicate 3 0#8 ++ List.replicate 3 0#8 from rfl]
  exact ⟨fun ⟨hlow, hhigh⟩ => congrArg₂ (· ++ ·) hlow hhigh, fun h => List.append_inj h hlen⟩

/-- A character is printable (R4). -/
theorem printable_iff (b : Byte) : printable b = true ↔ 0x20#8 ≤ b ∧ b ≤ 0x7E#8 := by
  simp [printable]

section
variable {head tail : List Byte}

/-- The points that a record image carries are in order by their raw codes (R72, R167). -/
theorem contentOrdered_decodeRecord
    (h : tail.length = (decodeHead head).labelLen + 5 * (decodeHead head).count) :
    contentOrdered (decodeRecord head tail) = true ↔
      ∀ j, j + 1 < (decodeHead head).count →
        readX (decodeRecord head tail).format (halfAt tail ((decodeHead head).labelLen + 5 * j)) <
          readX (decodeRecord head tail).format (halfAt tail ((decodeHead head).labelLen + 5 * (j + 1))) := by
  have hpoints : (decodeRecord head tail).points =
      (pointsOfBytes (tail.drop (decodeHead head).labelLen)).take (decodeHead head).count := rfl
  have hlen : (tail.drop (decodeHead head).labelLen).length = 5 * (decodeHead head).count := by
    rw [List.length_drop, h, Nat.add_sub_cancel_left]
  have hhalf (j : Nat) : halfAt (tail.drop (decodeHead head).labelLen) (5 * j) =
      halfAt tail ((decodeHead head).labelLen + 5 * j) :=
    congrArg₂ join16 (byteAt_drop _ _ _) (byteAt_drop _ _ _)
  rw [contentOrdered, hpoints, pointsOfBytes_eq_map _ _ hlen, List.take_of_length_le (by simp), List.map_map]
  simp only [Function.comp_def, hhalf]
  exact increasing_map_range _ _

/-- The limits of a record image are in order where they are marked (R73, R167). -/
theorem contentLimitsOk_decodeRecord (head tail : List Byte) :
    contentLimitsOk (decodeRecord head tail) = true ↔
      ((decodeHead head).mode.getLsbD 3 = true → (decodeHead head).low.toInt < (decodeHead head).high.toInt) := by
  have hlimits : (decodeRecord head tail).limits =
      if (decodeHead head).mode.getLsbD 3 then some { low := (decodeHead head).low, high := (decodeHead head).high }
      else none := rfl
  rw [contentLimitsOk_iff, hlimits]
  cases (decodeHead head).mode.getLsbD 3 <;> simp

/-- A due time of a record image is not 0 where it is marked (R167). -/
theorem due_decodeRecord_ne_zero (head tail : List Byte) :
    (decodeRecord head tail).due ≠ some 0#32 ↔
      ((decodeHead head).mode.getLsbD 4 = true → (decodeHead head).due ≠ 0#32) := by
  have hdue : (decodeRecord head tail).due =
      if (decodeHead head).mode.getLsbD 4 then some (decodeHead head).due else none := rfl
  rw [hdue]
  cases (decodeHead head).mode.getLsbD 4 <;> simp

/-- Limits are carried where they are marked (R206). -/
theorem limits_decodeRecord_isSome (head tail : List Byte) :
    (decodeRecord head tail).limits.isSome = (decodeHead head).mode.getLsbD 3 := by
  show (if (decodeHead head).mode.getLsbD 3 then some _ else none).isSome = _
  cases (decodeHead head).mode.getLsbD 3 <;> rfl

/-- A due time is carried where it is marked (R206). -/
theorem due_decodeRecord_isSome (head tail : List Byte) :
    (decodeRecord head tail).due.isSome = (decodeHead head).mode.getLsbD 4 := by
  show (if (decodeHead head).mode.getLsbD 4 then some _ else none).isSome = _
  cases (decodeHead head).mode.getLsbD 4 <;> rfl

/-- The field checks of R167 on the fields read. -/
theorem fieldsValid_iff (h : tail.length = (decodeHead head).labelLen + 5 * (decodeHead head).count) :
    fieldsValid head tail = true ↔
      2 ≤ (decodeHead head).count ∧ (decodeHead head).count ≤ 32 ∧ (decodeHead head).labelLen ≤ 15 ∧
      (∀ b ∈ tail.take (decodeHead head).labelLen, 0x20#8 ≤ b ∧ b ≤ 0x7E#8) ∧
      (decodeHead head).mode.toNat < 32 ∧
      (∀ j, j + 1 < (decodeHead head).count →
        readX (decodeRecord head tail).format (halfAt tail ((decodeHead head).labelLen + 5 * j)) <
          readX (decodeRecord head tail).format (halfAt tail ((decodeHead head).labelLen + 5 * (j + 1)))) ∧
      ((decodeHead head).mode.getLsbD 3 = true → (decodeHead head).low.toInt < (decodeHead head).high.toInt) ∧
      ((decodeHead head).mode.getLsbD 4 = true → (decodeHead head).due ≠ 0#32) ∧
      ((decodeHead head).mode.getLsbD 3 = false → (decodeHead head).low = 0#24 ∧ (decodeHead head).high = 0#24) ∧
      ((decodeHead head).mode.getLsbD 4 = false → (decodeHead head).due = 0#32) := by
  have himp (a b : Bool) : (a || b) = true ↔ (a = false → b = true) := by cases a <;> simp
  have hlabel : (decodeRecord head tail).label.all printable = true ↔
      ∀ b ∈ tail.take (decodeHead head).labelLen, 0x20#8 ≤ b ∧ b ≤ 0x7E#8 :=
    List.all_eq_true.trans (forall₂_congr fun b _ => printable_iff b)
  simp only [fieldsValid, Bool.and_eq_true, decide_eq_true_eq, himp, hlabel, beq_iff_eq, bne_iff_ne,
    highBits_eq_zero_iff, contentOrdered_decodeRecord h, contentLimitsOk_decodeRecord, due_decodeRecord_ne_zero,
    limits_decodeRecord_isSome, due_decodeRecord_isSome, and_assoc]

end

/-- Settles O43: the header and the record image that a save writes, then the conditions on any header and any
record. -/
theorem imagesReadBack : Obligations.ImagesReadBack := by
  refine ⟨fun generation epoch bodyLength written hsorted hcount hbody => ?_,
    fun c htwo hpoints hlabel hchars hordered hlimits hdue => ?_, fun bytes hlen => ?_, fun head tail hhead => ?_⟩
  · exact ⟨headerImage_length _ _ _ _, parseHeader_headerImage _ _ _ _,
      (congrArg parseHeader (writtenHeader_eq generation epoch bodyLength written)).trans
        (parseHeader_writtenHeader generation epoch hsorted hcount hbody)⟩
  · intro head tail
    have hhead : head = recordHeadBytes c := recordImage_take c
    have htail : tail = imageTail c := recordImage_drop c
    rw [hhead, htail]
    refine ⟨recordImage_length_eq c, ?_, ?_, decodeRecord_recordImage (by omega) (by omega)⟩
    · rw [imageCrc_recordImage, decodeHead_recordHeadBytes (by omega) (by omega)]
    · have hprintable : ∀ b ∈ c.label, printable b = true := fun b hb => (printable_iff b).2 (hchars b hb)
      exact fieldsValid_recordImage htwo hpoints hlabel hprintable hordered hlimits hdue
  · intro number marked valid
    have hvalid : validHeader bytes ↔ valid := validHeader_iff hlen
    rw [← hvalid]
    exact ⟨parseHeader_none, fun h => ⟨_, parseHeader_some h, toNat_wordAt (by omega), toNat_wordAt (by omega),
      toNat_halfAt (by omega), toNat_wordAt (by omega), presenceOfBytes_slice bytes⟩⟩
  · intro n l mode x limit htail
    refine (fieldsValid_iff htail).trans ?_
    rw [show (decodeHead head).due = wordAt head 12 from rfl, show (decodeHead head).low = val24At head 6 from rfl,
      show (decodeHead head).high = val24At head 9 from rfl, Ne, wordAt_eq_zero_iff (by omega),
      limits_eq_zero_iff (by omega)]
    rfl

end Sys2Proof.Machine

namespace Sys2Proof.Machine

/-! ### The closed port and the held device (R160, R202) -/

section
variable {s : State}

/-- Held in reset the port is closed (R202). -/
theorem State.portOpen_held (hh : s.held = true) : s.portOpen = false := by
  simp [State.portOpen, hh]

/-- So it is until chip select is high after the reset (R202). -/
theorem State.portOpen_waiting (hr : s.receiver = .awaitHigh) : s.portOpen = false := by
  simp [State.portOpen, hr]

/-- A closed port takes no frame that fails its checks (R202). -/
theorem State.takeFrameError_closed (hp : s.portOpen = false) (code : Option Byte) (e : FrameError) :
    s.takeFrameError code e = s := by
  simp [State.takeFrameError, hp]

/-- A closed port takes no command, Restart included (R202). -/
theorem exec_command_closed (hp : s.portOpen = false) {i : Instr} (hi : i.isCommand = true) : exec i s = .next s := by
  by_cases hr : i = .restart
  · subst hr
    exact congrArg Host.Outcome.next (if_neg (Bool.eq_false_iff.1 hp))
  · obtain ⟨k, run, h⟩ := exec_command_takeFrame hi hr s
    rw [h, State.takeFrame_closed hp]

/-- A closed port takes no transaction, and what it shifted out stays on record (R202; log entry 11). -/
theorem exec_transaction_closed (hp : s.portOpen = false) {i : Instr} (hi : i.isTransaction = true) :
    exec i s = .next s := by
  have hclosed : ¬ s.portOpen = true := Bool.eq_false_iff.1 hp
  cases i
  case commandWrite bytes => exact if_neg hclosed
  case frameError code e => exact congrArg Host.Outcome.next (State.takeFrameError_closed hp code e)
  case responseRead clocked => exact congrArg Host.Outcome.next (if_neg hclosed)
  case ignoredTransaction bytes =>
    exact congrArg Host.Outcome.next (if_neg fun h => hclosed (Bool.and_eq_true_iff.1 h).1)
  all_goals cases hi

/-- A lane asserts no ready while the device is held, so no request arrives (R90; log entry 12). -/
theorem State.arrive_held (hh : s.held = true) (n : LaneIdx) (word : Word) : s.arrive n word = s :=
  if_neg fun hready => by
    obtain ⟨hawake, -, -⟩ := (s.laneReady_iff n).1 hready
    exact Bool.false_ne_true (hawake.symm.trans hh)

/-- Whatever a row asks of the tick it names, no tick is taken while the device is held (R160; log entry 12). -/
theorem State.tick_held (hh : s.held = true) (due : Prop) [Decidable due] (took : Bool) :
    (if due then s.tick took else s) = s :=
  ite_eq_right_iff.2 fun _ => State.awake_held hh _

/-- The held device takes no row but the resets, their end, the take of a result and an upset (R160, R202; log
entry 12). -/
theorem exec_held (hh : s.held = true) {i : Instr} (hpower : ∀ torn, i ≠ .powerOnReset torn)
    (hpin : ∀ torn, i ≠ .pinReset torn) (hboot : ∀ b, i ≠ .bootLoad b) (htake : ∀ n, i ≠ .resultTake n)
    (hupset : ∀ j c, i ≠ .upset j c) : exec i s = .next s := by
  by_cases hcommand : i.isCommand = true
  · exact exec_command_closed (State.portOpen_held hh) hcommand
  by_cases htransaction : i.isTransaction = true
  · exact exec_transaction_closed (State.portOpen_held hh) htransaction
  cases i
  case powerOnReset torn => exact absurd rfl (hpower torn)
  case pinReset torn => exact absurd rfl (hpin torn)
  case bootLoad csLow => exact absurd rfl (hboot csLow)
  case resultTake n => exact absurd rfl (htake n)
  case upset j c => exact absurd rfl (hupset j c)
  case commandWrite | frameError | responseRead | ignoredTransaction => exact absurd rfl htransaction
  case requestArrival n word => exact congrArg Host.Outcome.next (State.arrive_held hh n word)
  case laneGrant | probeGrant | laneCompletion | probeCompletion | millisecondTick | tableClear | repairStart
      | saveHeaderReadCompletion | invalidateWriteCompletion | bodyWriteCompletion | headerWriteCompletion
      | markerWriteCompletion | finishingWriteCompletion | deferredTransferIssue | loadHeaderReadCompletion
      | loadHeadReadCompletion | loadTailReadCompletion | repairHeaderReadCompletion | repairHeadReadCompletion
      | repairTailReadCompletion | chipSelectRiseAfterReset =>
    exact congrArg Host.Outcome.next (State.awake_held hh _)
  case secondsTick | leaseLapse | stepExpiry | saveStoreSilence | finishingWriteSilence | loadHeaderSilence
      | loadWalkSilence | repairStoreSilence =>
    exact congrArg Host.Outcome.next (State.tick_held hh _ _)
  all_goals exact absurd rfl hcommand

end

/-- Settles O5: the held device takes nothing of its clock; a waiting receiver's port is closed, and the rise of chip
select opens it. -/
theorem heldDeviceAndWaitingReceiverTakeNothing : Obligations.HeldDeviceAndWaitingReceiverTakeNothing := by
  refine ⟨fun _ _ hh => exec_held hh,
    fun s hh hr => ⟨fun i hi => ?_, congrArg Host.Outcome.next (State.awake_running hh _)⟩⟩
  have hp := State.portOpen_waiting hr
  rcases hi with hcommand | htransaction
  · exact exec_command_closed hp hcommand
  · exact exec_transaction_closed hp htransaction

end Sys2Proof.Machine

namespace Sys2Proof.Machine

/-! ### Codes and items of a frame (R189, R204) -/

/-- A command's code byte names that command (R189). -/
theorem codeOfByte_codeByte (k : CommandCode) : codeOfByte (codeByte k) = some k := by cases k <;> rfl

/-- A byte that is no command's code names none (R189). -/
theorem codeOfByte_none {b : Byte} (h : ∀ k, codeByte k ≠ b) : codeOfByte b = none := by simp [codeOfByte, h]

/-- Two bytes are those of the 2-byte item that they give. -/
theorem be16_eq_iff {bs : List Byte} (h : bs.length = 2) (v : Half) : be16 v = bs ↔ v = halfAt bs 0 := by
  match bs, h with
  | [b1, b0], _ => exact eq_comm.trans ((eq_be16_iff b1 b0 v).trans eq_comm)

/-- The items of a vector of four. -/
theorem vector4_toList {α : Type} (v : Vector α 4) : v.toList = [v.get 0, v.get 1, v.get 2, v.get 3] := by
  obtain ⟨⟨l⟩, h⟩ := v
  match l, h with
  | [_, _, _, _], _ => rfl

/-- A vector of four is that of its items. -/
theorem vector4_eta {α : Type} (v : Vector α 4) : #v[v.get 0, v.get 1, v.get 2, v.get 3] = v :=
  Vector.toList_inj.1 (vector4_toList v).symm

/-! ### The frame checks (R189, R203) -/

/-- Fewer than two bytes fail the length check, with the code byte if one was received (R189). -/
theorem checkFrame_short {bytes : List Byte} (h : bytes.length < 2) :
    checkFrame bytes = .bad bytes.head? .frameLength := by
  match bytes, h with
  | [], _ => rfl
  | [_], _ => rfl

section
variable {c len : Byte} {rest : List Byte}

/-- A length byte over 64, or one that the bytes received do not match, fails the length check (R189). -/
theorem checkFrame_frameLength (h : 64 < len.toNat ∨ rest.length ≠ len.toNat + 2) :
    checkFrame (c :: len :: rest) = .bad (some c) .frameLength := if_pos h

section
variable (hlen : len.toNat ≤ 64) (hrest : rest.length = len.toNat + 2)
include hlen hrest

/-- A frame of the right length fails the CRC check where its last two bytes are not its CRC (R189, R203). -/
theorem checkFrame_frameCrc (hcrc : be16 (deviceCrc (c :: len :: rest.take len.toNat)) ≠ rest.drop len.toNat) :
    checkFrame (c :: len :: rest) = .bad (some c) .frameCrc := by
  have hlength : ¬ (64 < len.toNat ∨ rest.length ≠ len.toNat + 2) := by omega
  rw [Ne, be16_eq_iff (by rw [List.length_drop]; omega)] at hcrc
  exact (if_neg hlength).trans (if_pos hcrc)

variable (hcrc : be16 (deviceCrc (c :: len :: rest.take len.toNat)) = rest.drop len.toNat)
include hcrc

/-- A frame of the right length and CRC fails the last check where its code is no command's (R189). -/
theorem checkFrame_unknownCommand (hcode : ∀ k, codeByte k ≠ c) :
    checkFrame (c :: len :: rest) = .bad (some c) .unknownCommand := by
  have hlength : ¬ (64 < len.toNat ∨ rest.length ≠ len.toNat + 2) := by omega
  rw [be16_eq_iff (by rw [List.length_drop]; omega)] at hcrc
  rw [checkFrame, if_neg hlength, if_neg (not_not_intro hcrc), codeOfByte_none hcode]

/-- Otherwise it passes, as the frame of its code with the payload between (R189). -/
theorem checkFrame_good {k : CommandCode} (hcode : codeByte k = c) :
    checkFrame (c :: len :: rest) = .good k (rest.take len.toNat) := by
  have hlength : ¬ (64 < len.toNat ∨ rest.length ≠ len.toNat + 2) := by omega
  rw [be16_eq_iff (by rw [List.length_drop]; omega)] at hcrc
  subst hcode
  rw [checkFrame, if_neg hlength, if_neg (not_not_intro hcrc), codeOfByte_codeByte]

end

end

/-- The frame of a command with at most 64 bytes of payload passes the checks (R189, R203). -/
theorem checkFrame_frameOf (k : CommandCode) {p : List Byte} (h : p.length ≤ 64) :
    checkFrame (frameOf k p) = .good k p := by
  have hlen : (byteOf p.length).toNat = p.length := toNat_byteOf (by omega)
  have hgood := checkFrame_good (c := codeByte k) (len := byteOf p.length)
    (rest := p ++ be16 (deviceCrc (codeByte k :: byteOf p.length :: p))) (by omega)
    (by rw [List.length_append, hlen]; rfl) (by rw [hlen, List.take_left, List.drop_left]) (k := k) rfl
  rw [hlen, List.take_left] at hgood
  exact hgood

/-! ### Payloads (R204) -/

section
variable {i : Instr} {k : CommandCode} {p : List Byte}

/-- The payload of a command that can be sent fits a frame (R189). -/
theorem encodePayload_length (hw : i.wf = true) (h : encodePayload i = some (k, p)) : p.length ≤ 64 := by
  cases i
  case setLabel c label =>
    cases h
    have hlabel : label.length ≤ 62 := of_decide_eq_true hw
    rw [List.length_append]
    exact Nat.add_le_add_left hlabel 2
  case putPoints c start points =>
    cases h
    have hpoints : points.length ≤ 12 := of_decide_eq_true hw
    rw [List.length_append, pointsBytes_length]
    show 3 + 5 * points.length ≤ 64
    omega
  case setControl selection v =>
    cases h
    simp [vector4_toList, be16]
  case openEdit | setFields | trimPoints | dropEdit | abandon | commit | readEditSet | probe
      | readMapEntry | readRecord | readPoints | setTime | readAttention | clearReasons | clearCauses | save | stopSave
      | reload | readControl | readStatus | readIdentity | restart => cases h; simp [be16, be24, be32]
  all_goals cases h

/-- The payload of a command that can be sent is decoded to that command with every operand (R204). -/
theorem decodePayload_encodePayload (hw : i.wf = true) (h : encodePayload i = some (k, p)) :
    decodePayload k p = some i := by
  cases i
  case setLabel c label =>
    cases h
    have hlabel : label.length ≤ 62 := of_decide_eq_true hw
    have hlen : label.length = (byteOf label.length).toNat := (toNat_byteOf (by omega)).symm
    refine (if_pos hlen).trans (congrArg some ?_)
    rw [channelOfByte_byteOfChannel]
    rfl
  case putPoints c start points =>
    cases h
    have hpoints : points.length ≤ 12 := of_decide_eq_true hw
    have hlen : (points.flatMap pointBytes).length = 5 * (byteOf points.length).toNat := by
      rw [pointsBytes_length, toNat_byteOf (by omega)]
    refine (if_pos hlen).trans (congrArg some ?_)
    rw [channelOfByte_byteOfChannel]
    exact congrArg (Instr.putPoints c start) (pointsOfBytes_flatMap points)
  case setControl selection v =>
    cases h
    rw [vector4_toList, vector4_toList]
    show some (Instr.setControl (join16 (selection.extractLsb' 8 8) (selection.extractLsb' 0 8))
      { v with laneEnable := #v[_, _, _, _], threshold := #v[_, _, _, _] }) = _
    rw [join16_be16, vector4_eta, vector4_eta]
  case setFields c f =>
    cases h
    show some (Instr.setFields (channelOfByte (byteOfChannel c)) { f with
      low := join24 (f.low.extractLsb' 16 8) (f.low.extractLsb' 8 8) (f.low.extractLsb' 0 8)
      high := join24 (f.high.extractLsb' 16 8) (f.high.extractLsb' 8 8) (f.high.extractLsb' 0 8)
      due := join32 (f.due.extractLsb' 24 8) (f.due.extractLsb' 16 8) (f.due.extractLsb' 8 8)
        (f.due.extractLsb' 0 8) }) = _
    rw [channelOfByte_byteOfChannel, join24_be24, join24_be24, join32_be32]
  case probe c raw which =>
    cases h
    exact congrArg₂ (fun c raw => some (Instr.probe c raw which)) (channelOfByte_byteOfChannel c) (join16_be16 raw)
  case setTime seconds =>
    cases h
    exact congrArg (some ∘ Instr.setTime) (join32_be32 seconds)
  case openEdit c _ | trimPoints c _ | dropEdit c | readMapEntry c | readRecord c _ | readPoints c _ _ _
      | readAttention c | clearReasons c _ =>
    cases h
    refine congrArg some ?_
    rw [channelOfByte_byteOfChannel]
  case abandon | commit | readEditSet | clearCauses | save | stopSave | reload | readControl | readStatus
      | readIdentity | restart => cases h; rfl
  all_goals cases h

end

/-- Settles O6: the payload fits, its frame passes the checks, and its items give the operands back. -/
theorem commandFramesRoundTrip : Obligations.CommandFramesRoundTrip := by
  intro i k p hw h
  have hlen := encodePayload_length hw h
  exact ⟨hlen, checkFrame_frameOf k hlen, decodePayload_encodePayload hw h⟩

end Sys2Proof.Machine

namespace Sys2Proof.Machine

/-! ### What no command but Restart reaches (R25, R191) -/

/-- Beside the lanes and the lookups in flight (`State.sameLanes`), what no command but Restart reaches; and the command
counter, which the port counts up before the command runs. -/
structure Beyond where
  counter    : Byte
  pointer    : Fin 5
  store      : Mem
  scrubPos   : Fin 128
  lastLoad   : LoadOutcome
  lastRepair : RepairOutcome
  sdo        : List Byte
  held       : Bool
  receiver   : Receiver

/-- What lies beyond the commands in a state. -/
def State.beyond (s : State) : Beyond :=
  { counter := s.counter, pointer := s.pointer, store := s.store, scrubPos := s.scrubPos, lastLoad := s.lastLoad,
    lastRepair := s.lastRepair, sdo := s.sdo, held := s.held, receiver := s.receiver }

/-- Two states agree beyond the commands when they do in each of these fields. -/
theorem State.beyond_eq_iff (s t : State) :
    t.beyond = s.beyond ↔
      t.counter = s.counter ∧ t.pointer = s.pointer ∧ t.store = s.store ∧ t.scrubPos = s.scrubPos ∧
        t.lastLoad = s.lastLoad ∧ t.lastRepair = s.lastRepair ∧ t.sdo = s.sdo ∧ t.held = s.held ∧
        t.receiver = s.receiver := by
  simp [State.beyond]

section
variable (s : State)

/-! #### The shared operations -/

theorem State.discard_beyond (e : Entry) : (s.discard e).beyond = s.beyond := by
  rw [State.discard_eq]
  rfl

theorem State.emptyEdits_beyond : s.emptyEdits.beyond = s.beyond := by
  rw [State.emptyEdits, State.discardAll_frame]
  rfl

theorem State.applyAll_beyond (es : List Entry) : (es.foldl State.applyEntry s).beyond = s.beyond := by
  rw [State.applyAll_eq]
  rfl

theorem State.startRepair_beyond : s.startRepair.beyond = s.beyond := by
  rw [State.startRepair_eq]
  obtain h | ⟨c, i, rest, -, -, -, -, h⟩ := s.withRepair_cases
  · exact congrArg State.beyond (h s.scrubCount)
  · exact (congrArg State.beyond (h s.scrubCount)).trans rfl

theorem State.mismatch_beyond (i : SlotIdx) : (s.mismatch i).beyond = s.beyond := by
  unfold State.mismatch
  simp only [State.queueRepair_eq]
  split <;> rfl

theorem State.stopSave_beyond (v : SaveState) : (s.stopSave v).beyond = s.beyond := by
  rw [State.stopSave, State.dropTransfer_eq]
  exact State.startRepair_beyond _

theorem State.endDrain_beyond : s.endDrain.beyond = s.beyond := by
  unfold State.endDrain
  split
  case h_2 => rfl
  case h_1 =>
    split
    case isTrue => rw [State.beginHeaders_eq]; rfl
    case isFalse => rfl

theorem State.restartStore_beyond : s.restartStore.beyond = s.beyond := by
  unfold State.restartStore
  split
  case h_1 => rfl
  case h_2 v _ => exact s.stopSave_beyond v
  case h_3 => rw [State.dropTransfer_eq]; rfl
  case h_4 =>
    split
    case isTrue => exact s.endDrain_beyond
    case isFalse => rw [State.dropTransfer_eq, State.beginHeaders_eq]; rfl

/-- Restart leaves the record of what was shifted out (log entry 11). -/
theorem State.restart_sdo : s.restart.sdo = s.sdo :=
  (congrArg Beyond.sdo s.restartBlocks.restartStore_beyond).trans (congrArg Beyond.sdo s.emptyEdits_beyond)

/-! #### The commands -/

variable {s}

/-- A command that LOADING may refuse reaches no further than its own checks do (R50). -/
theorem unlessLoading_beyond {run : State → Answer} (h : (run s).state.beyond = s.beyond) :
    (unlessLoading run s).state.beyond = s.beyond := by
  unfold unlessLoading
  split
  · rfl
  · exact h

/-- So does a content command (R56). -/
theorem onStaged_beyond {c : Channel} {run : State → SlotIdx → Answer} (h : ∀ i, (run s i).state.beyond = s.beyond) :
    (onStaged c run s).state.beyond = s.beyond := by
  refine unlessLoading_beyond ?_
  split
  case h_1 => rfl
  case h_2 =>
    split
    case h_1 => rfl
    case h_2 i _ => exact h i

variable (s)

theorem State.openEntry_beyond (c : Channel) (kind : EditKind) (taken : Option (SlotIdx × Content)) :
    (s.openEntry c kind taken).state.beyond = s.beyond := by
  cases taken <;> rfl

theorem State.openStaged_beyond (c : Channel) (kind : EditKind) :
    (s.openStaged c kind).state.beyond = s.beyond := by
  unfold State.openStaged
  split
  case h_1 => rfl
  case h_2 i _ =>
    split
    case h_2 => exact s.openEntry_beyond c _ _
    case h_1 src _ =>
      simp only
      split
      case isTrue => rfl
      case isFalse =>
        split
        case isTrue => exact (State.startRepair_beyond _).trans (s.mismatch_beyond src)
        case isFalse => exact s.openEntry_beyond c _ _

theorem openEdit_beyond (c : Channel) (kind : Byte) : (openEdit c kind s).state.beyond = s.beyond := by
  refine unlessLoading_beyond ?_
  repeat' split
  case isFalse => exact s.openStaged_beyond c _
  all_goals rfl

theorem setFields_beyond (c : Channel) (f : FieldBytes) : (setFields c f s).state.beyond = s.beyond :=
  onStaged_beyond fun i => by split <;> rfl

theorem setLabel_beyond (c : Channel) (label : List Byte) : (setLabel c label s).state.beyond = s.beyond :=
  onStaged_beyond fun i => by split <;> rfl

theorem putPoints_beyond (c : Channel) (start : Byte) (points : List Point) :
    (putPoints c start points s).state.beyond = s.beyond := by
  refine onStaged_beyond fun i => ?_
  simp only
  repeat' split
  all_goals rfl

theorem trimPoints_beyond (c : Channel) (count : Byte) : (trimPoints c count s).state.beyond = s.beyond :=
  onStaged_beyond fun i => by simp only; split <;> rfl

theorem dropEdit_beyond (c : Channel) : (dropEdit c s).state.beyond = s.beyond := by
  refine unlessLoading_beyond ?_
  split
  case h_1 => rfl
  case h_2 e _ =>
    simp only
    split <;> exact s.discard_beyond e

theorem abandon_beyond : (abandon s).state.beyond = s.beyond := by
  refine unlessLoading_beyond ?_
  split
  · rfl
  · exact s.emptyEdits_beyond

theorem commit_beyond : (commit s).state.beyond = s.beyond := by
  refine unlessLoading_beyond ?_
  repeat' split
  case h_2 => exact s.applyAll_beyond s.edits
  all_goals rfl

theorem readEditSet_beyond (start : Byte) : (readEditSet start s).state.beyond = s.beyond := by
  unfold readEditSet
  split <;> rfl

theorem probe_beyond (c : Channel) (raw : Half) (which : Byte) : (probe c raw which s).state.beyond = s.beyond := by
  refine unlessLoading_beyond ?_
  repeat' split
  all_goals rfl

theorem readRecord_beyond (c : Channel) (which : Byte) : (readRecord c which s).state.beyond = s.beyond := by
  unfold readRecord
  split <;> rfl

theorem readPoints_beyond (c : Channel) (which start count : Byte) :
    (readPoints c which start count s).state.beyond = s.beyond := by
  unfold readPoints
  simp only
  repeat' split
  all_goals rfl

theorem clearReasons_beyond (c : Channel) (selection : Byte) :
    (clearReasons c selection s).state.beyond = s.beyond := by
  unfold clearReasons
  split <;> rfl

theorem clearCauses_beyond (selection : Byte) : (clearCauses selection s).state.beyond = s.beyond := by
  unfold clearCauses
  split <;> rfl

theorem saveCommand_beyond : (saveCommand s).state.beyond = s.beyond := by
  unfold saveCommand
  split
  case isTrue => rfl
  case isFalse =>
    split
    case isTrue => rfl
    case isFalse => simp only [State.startSave, State.issueFirst_eq]; rfl

theorem stopSaveCommand_beyond : (stopSaveCommand s).state.beyond = s.beyond := by
  unfold stopSaveCommand
  split
  case h_1 v _ => exact s.stopSave_beyond v
  case h_2 => rfl

theorem reload_beyond : (reload s).state.beyond = s.beyond := by
  unfold reload
  split
  case isTrue => rfl
  case isFalse =>
    split
    case isTrue => rfl
    case isFalse => exact State.endDrain_beyond _

theorem setControl_beyond (selection : Half) (v : ControlBytes) :
    (setControl selection v s).state.beyond = s.beyond := by
  unfold setControl
  split
  case isTrue => rfl
  case isFalse => exact State.startRepair_beyond _

end

section
variable {i : Instr} {k : CommandCode} {p : List Byte} {s : State}

/-- A command other than Restart is a frame of its code at the port, and what it runs reaches nothing beyond the
commands (R191). -/
theorem exec_command_frame (hi : encodePayload i = some (k, p)) (hr : i ≠ .restart) (s : State) :
    ∃ run : State → Answer, exec i s = .next (s.takeFrame k run) ∧ ∀ t, (run t).state.beyond = t.beyond := by
  cases i
  case restart => exact absurd rfl hr
  case openEdit c kind => cases hi; exact ⟨_, rfl, fun t => openEdit_beyond t c kind⟩
  case setFields c f => cases hi; exact ⟨_, rfl, fun t => setFields_beyond t c f⟩
  case setLabel c label => cases hi; exact ⟨_, rfl, fun t => setLabel_beyond t c label⟩
  case putPoints c start points => cases hi; exact ⟨_, rfl, fun t => putPoints_beyond t c start points⟩
  case trimPoints c count => cases hi; exact ⟨_, rfl, fun t => trimPoints_beyond t c count⟩
  case dropEdit c => cases hi; exact ⟨_, rfl, fun t => dropEdit_beyond t c⟩
  case abandon => cases hi; exact ⟨_, rfl, abandon_beyond⟩
  case commit => cases hi; exact ⟨_, rfl, commit_beyond⟩
  case readEditSet start => cases hi; exact ⟨_, rfl, fun t => readEditSet_beyond t start⟩
  case probe c raw which => cases hi; exact ⟨_, rfl, fun t => probe_beyond t c raw which⟩
  case readRecord c which => cases hi; exact ⟨_, rfl, fun t => readRecord_beyond t c which⟩
  case readPoints c which start count => cases hi; exact ⟨_, rfl, fun t => readPoints_beyond t c which start count⟩
  case clearReasons c selection => cases hi; exact ⟨_, rfl, fun t => clearReasons_beyond t c selection⟩
  case clearCauses selection => cases hi; exact ⟨_, rfl, fun t => clearCauses_beyond t selection⟩
  case save => cases hi; exact ⟨_, rfl, saveCommand_beyond⟩
  case stopSave => cases hi; exact ⟨_, rfl, stopSaveCommand_beyond⟩
  case reload => cases hi; exact ⟨_, rfl, reload_beyond⟩
  case setControl selection v => cases hi; exact ⟨_, rfl, fun t => setControl_beyond t selection v⟩
  case readMapEntry | setTime | readAttention | readControl | readStatus | readIdentity =>
    cases hi
    exact ⟨_, rfl, fun _ => rfl⟩
  all_goals cases hi

end

/-- Settles O10: the frame is counted before the command runs, and answered after it. -/
theorem takenFramesAreCounted : Obligations.TakenFramesAreCounted := by
  intro i k p s hears hi hr
  have hcommand : i.isCommand = true := by simp [Instr.isCommand, hi]
  obtain ⟨run, hexec, hrun⟩ := exec_command_frame hi hr s
  rw [State.takeFrame_heard hears] at hexec
  obtain ⟨hlanes, hcontexts⟩ := runCommand_sameLanes hr ((runCommand_eq_exec hcommand s).trans hexec)
  obtain ⟨hcounter, hpointer, hstore, hpos, hload, hrepair, hsdo, hheld, hreceiver⟩ :=
    (State.beyond_eq_iff _ _).1 (hrun s.count)
  exact ⟨_, hexec, hcounter, rfl, hcounter, rfl, hcontexts, hpointer, hlanes, hstore, hpos, hload, hrepair, hsdo, hheld,
    hreceiver⟩

end Sys2Proof.Machine

namespace Sys2Proof.Machine

section
variable {bytes p : List Byte} {k : CommandCode} {i : Instr} {s : State}

/-! ### Command writes (R188 to R191) -/

/-- The state with the bytes of a command write on record: 00h was shifted out for C3h and for every byte after it
(R188; log entry 11). -/
def State.zerosOut (s : State) (bytes : List Byte) : State := { s with sdo := List.replicate (bytes.length + 1) 0#8 }

/-- What is shifted out decides nothing about what is heard. -/
theorem State.hears.zerosOut (h : s.hears) (bytes : List Byte) : (s.zerosOut bytes).hears := h

/-- A command write whose frame passes its checks and is decoded runs the command; 00h was shifted out for every byte
(R188, R189). -/
theorem exec_commandWrite_good (ho : s.portOpen = true) (hcheck : checkFrame bytes = .good k p)
    (hdecode : decodePayload k p = some i) :
    exec (.commandWrite bytes) s = exec i (s.zerosOut bytes) := by
  obtain ⟨q, hq⟩ := encodePayload_of_decode hdecode
  have hcommand : i.isCommand = true := by simp [Instr.isCommand, hq]
  refine (if_pos ho).trans ?_
  simp only [State.commandWrite, hcheck, hdecode]
  exact runCommand_eq_exec hcommand _

/-- A command write whose frame fails a check is answered as that frame error (R189, R190). -/
theorem exec_commandWrite_bad {code : Option Byte} {e : FrameError} (ho : s.portOpen = true)
    (hcheck : checkFrame bytes = .bad code e) :
    exec (.commandWrite bytes) s = .next ((s.zerosOut bytes).takeFrameError code e) := by
  refine (if_pos ho).trans ?_
  rw [State.commandWrite, hcheck]
  rfl

/-- A command write whose payload has a length its layout does not allow (R191). -/
theorem exec_commandWrite_badLength (ho : s.portOpen = true) (hcheck : checkFrame bytes = .good k p)
    (hdecode : decodePayload k p = none) :
    exec (.commandWrite bytes) s = .next ((s.zerosOut bytes).takeBadLength k) := by
  refine (if_pos ho).trans ?_
  simp only [State.commandWrite, hcheck, hdecode]
  rfl

/-- The port is open where a frame is heard (R202). -/
theorem State.hears.portOpen (h : s.hears) : s.portOpen = true := by
  obtain ⟨hheld, hreceiver, -⟩ := h
  exact State.portOpen_of hheld hreceiver

/-- The command write of a command's frame runs the command (R188, R189). -/
theorem exec_commandWrite_frameOf (ho : s.portOpen = true) (hw : i.wf = true) (hi : encodePayload i = some (k, p)) :
    exec (.commandWrite (frameOf k p)) s = exec i (s.zerosOut (frameOf k p)) :=
  exec_commandWrite_good ho (checkFrame_frameOf k (encodePayload_length hw hi)) (decodePayload_encodePayload hw hi)

/-- Settles O7: the frame passes its checks and is decoded to its command, which is counted or a Restart. -/
theorem commandWriteRunsItsCommand : Obligations.CommandWriteRunsItsCommand := by
  refine ⟨fun i bytes s hheld hreceiver hw hframe => ?_, fun i k p s hears hw hi => ?_⟩
  · obtain ⟨⟨k, p⟩, hi, rfl⟩ := Option.map_eq_some_iff.1 hframe
    exact exec_commandWrite_frameOf (State.portOpen_of hheld hreceiver) hw hi
  · have hrun := exec_commandWrite_frameOf hears.portOpen hw hi
    by_cases hr : i = .restart
    · subst hr
      obtain ⟨hheld, hreceiver, -⟩ := hears
      have hrestart := exec_restart (s := s.zerosOut (frameOf k p)) hheld hreceiver
      exact ⟨_, hrun.trans hrestart, hrestart, State.restart_sdo _, fun h => absurd rfl h⟩
    · obtain ⟨t, ht, hcounter, hecho, hcount, hrefused, -, -, -, -, -, -, -, hsdo, -, -⟩ :=
        takenFramesAreCounted i k p _ (hears.zerosOut (frameOf k p)) hi hr
      exact ⟨t, hrun.trans ht, ht, hsdo, fun _ => ⟨hcounter, hecho, hcount, hrefused⟩⟩

/-- A heard frame that fails a check is answered with its error status, and nothing else changes (R190). -/
theorem State.takeFrameError_heard (h : s.hears) (code : Option Byte) (e : FrameError) :
    s.takeFrameError code e =
      { s with
        response := { status := frameErrorStatus e, echo := code.getD 0#8, counter := s.counter, refused := false,
                      payload := [] } } := by
  obtain ⟨hheld, hreceiver, hprobe⟩ := h
  simp [State.takeFrameError, State.portOpen_of hheld hreceiver, State.probePending, hprobe]

/-- The commands whose rule makes LOADING its first check (R50, R69, R105, R191). -/
theorem loadingFirst_iff (k : CommandCode) :
    loadingFirst k = true ↔ k ∈ ([.openEdit, .setFields, .setLabel, .putPoints, .trimPoints, .dropEdit, .abandon,
      .commit, .probe] : List CommandCode) := by
  cases k <;> decide

/-- A heard frame of a wrong length is counted, and refused with LOADING or BAD_PARAM (R191). -/
theorem State.takeBadLength_heard (h : s.hears) (k : CommandCode) :
    s.takeBadLength k = s.answered k
      (if s.isLoading = true ∧ k ∈ [.openEdit, .setFields, .setLabel, .putPoints, .trimPoints, .dropEdit, .abandon,
        .commit, .probe] then .loading else .badParam) [] := by
  obtain ⟨-, -, hprobe⟩ := id h
  have hfirst : ¬ (k = .restart ∧ s.portOpen = true ∧ s.probePending = true) := by simp [State.probePending, hprobe]
  have hloading : s.count.isLoading = s.isLoading := rfl
  rw [State.takeBadLength, if_neg hfirst, State.takeFrame_heard h]
  simp only [hloading, Bool.and_eq_true, loadingFirst_iff, and_comm (b := s.isLoading = true)]
  split <;> rfl

/-- Settles O8: the checks in their order, then what is answered to a frame that fails one and to a payload that is not
decoded. -/
theorem badFramesAreAnswered : Obligations.BadFramesAreAnswered := by
  refine ⟨⟨fun bytes => checkFrame_short, fun c len rest => ⟨checkFrame_frameLength, fun hlen hrest =>
    ⟨checkFrame_frameCrc hlen hrest, fun hcrc => ⟨checkFrame_unknownCommand hlen hrest hcrc,
      fun k => checkFrame_good hlen hrest hcrc⟩⟩⟩, fun bytes code e s hears => ?_⟩,
    fun bytes p k s hears hcheck hdecode => ?_⟩
  · exact ⟨congrArg Host.Outcome.next (State.takeFrameError_heard hears code e), fun hcheck =>
      (exec_commandWrite_bad hears.portOpen hcheck).trans
        (congrArg Host.Outcome.next (State.takeFrameError_heard (hears.zerosOut bytes) code e))⟩
  · exact (exec_commandWrite_badLength hears.portOpen hcheck hdecode).trans
      (congrArg Host.Outcome.next (State.takeBadLength_heard (hears.zerosOut bytes) k))

/-! ### Response reads and ignored transactions (R188, R193) -/

/-- A transaction is ignored when its first whole byte, if it has one, is neither C3h nor 3Ch (R188). -/
theorem ignoredBytes_iff (bytes : List Byte) :
    ignoredBytes bytes = true ↔ ∀ b ∈ bytes.head?, b ≠ 0xC3#8 ∧ b ≠ 0x3C#8 := by
  cases bytes with
  | nil => simp [ignoredBytes]
  | cons b bytes => simp [ignoredBytes]

/-- Settles O11: the bytes of the buffer, and FFh for an ignored transaction. -/
theorem transactionsShiftOut : Obligations.TransactionsShiftOut := by
  refine ⟨fun clocked s hheld hreceiver => ?_, fun bytes s hheld hreceiver hbytes => ?_⟩
  · intro r status body
    have hstatus : status = statusCode r.status := by
      simp only [status]
      cases r.status <;> rfl
    have hbody : body ++ be16 (deviceCrc body) = responseBytes s.response := by
      simp only [body, hstatus]
      rfl
    rw [hbody]
    exact congrArg Host.Outcome.next (if_pos (State.portOpen_of hheld hreceiver))
  · have hignored : (s.portOpen && ignoredBytes bytes) = true :=
      Bool.and_eq_true_iff.2 ⟨State.portOpen_of hheld hreceiver, (ignoredBytes_iff bytes).2 hbytes⟩
    exact congrArg Host.Outcome.next (if_pos hignored)

/-! ### Read Control and Read Identity (R197, R200) -/

/-- The thirteen settings in the order of the response (R197). -/
theorem controlBytes_eq (c : Control) :
    controlBytes c =
      [c.lease, c.step, flagByte c.repairEnable, flagByte (c.laneEnable.get 0), flagByte (c.laneEnable.get 1),
       flagByte (c.laneEnable.get 2), flagByte (c.laneEnable.get 3), c.threshold.get 0, c.threshold.get 1,
       c.threshold.get 2, c.threshold.get 3, c.reasonMask.zeroExtend 8, c.causeMask.zeroExtend 8] := by
  rw [controlBytes, vector4_toList, vector4_toList]
  rfl

/-- Settles O52: each command answers with its bytes and leaves the state that it was given. -/
theorem readControlAndIdentity : Obligations.ReadControlAndIdentity := by
  intro s hears
  refine ⟨?_, exec_answered (run := readIdentity) rfl hears rfl⟩
  intro bit c
  exact (exec_answered (run := readControl) (t := s) rfl hears rfl).trans
    (congrArg (fun payload => Host.Outcome.next (s.answered .readControl .ok payload)) (controlBytes_eq c))

end

end Sys2Proof.Machine

namespace Sys2Proof.Machine

/-! ### One step (chapter 0, section 2) -/

/-- Settles O1: the step reads the front of the queue and nothing else. -/
theorem stepRunsFrontCommand : Obligations.StepRunsFrontCommand :=
  ⟨fun _ _ _ => rfl, fun _ => rfl⟩

/-! ### No shared operation touches the queue of commands waiting -/

section
variable (s : State)

/-- What leaves the queue alone at each element of a list leaves it alone along it. -/
theorem foldl_keeps_pending {α : Type} {f : State → α → State} (h : ∀ s a, (f s a).pending = s.pending)
    (l : List α) : (l.foldl f s).pending = s.pending := by
  induction l generalizing s with
  | nil => rfl
  | cons a l ih => exact (ih _).trans (h s a)

/-! #### The table -/

@[simp] theorem State.release_keeps_pending (i : SlotIdx) : (s.release i).pending = s.pending := by
  rw [State.release_eq]
  rfl

@[simp] theorem State.discard_keeps_pending (e : Entry) : (s.discard e).pending = s.pending := by
  rw [State.discard_eq]

@[simp] theorem State.emptyEdits_keeps_pending : s.emptyEdits.pending = s.pending :=
  foldl_keeps_pending s State.discard_keeps_pending s.edits

@[simp] theorem State.applyAll_keeps_pending (es : List Entry) : (es.foldl State.applyEntry s).pending = s.pending := by
  rw [State.applyAll_eq]

@[simp] theorem State.mismatch_keeps_pending (i : SlotIdx) : (s.mismatch i).pending = s.pending := by
  unfold State.mismatch
  simp only [State.queueRepair_eq]
  split <;> rfl

@[simp] theorem State.upset_keeps_pending (i : SlotIdx) (c : Content) : (s.upset i c).pending = s.pending := by
  unfold State.upset
  split <;> rfl

@[simp] theorem State.markLost_keeps_pending (c : Channel) (r : Half) : (s.markLost c r).pending = s.pending := rfl

@[simp] theorem State.loseRest_keeps_pending (w : Walk) : (s.loseRest w).pending = s.pending :=
  foldl_keeps_pending s (fun s c => s.markLost_keeps_pending c 0#16) (w.expected :: w.later)

@[simp] theorem State.loadInstall_keeps_pending (i : SlotIdx) (c : Content) :
    (s.loadInstall i c).pending = s.pending := by
  unfold State.loadInstall
  simp only
  split <;> rfl

@[simp] theorem State.repairInstall_keeps_pending (r : RepairState) (i : SlotIdx) (c : Content) :
    (s.repairInstall r i c).pending = s.pending := by
  simp [State.repairInstall]

/-! #### The store port and the operations' ends -/

@[simp] theorem State.issueFirst_keeps_pending : s.issueFirst.pending = s.pending := by
  rw [State.issueFirst_eq]

@[simp] theorem State.issueHeaderRead_keeps_pending (area : Area) : (s.issueHeaderRead area).pending = s.pending :=
  rfl

@[simp] theorem State.issueDeferred_keeps_pending : s.issueDeferred.pending = s.pending := by
  unfold State.issueDeferred
  split <;> simp

@[simp] theorem State.dropTransfer_keeps_pending : s.dropTransfer.pending = s.pending := by
  rw [State.dropTransfer_eq]

/-- The start of a repair works on the repair queue, not on the queue of commands (R181). -/
@[simp] theorem State.startRepair_keeps_pending : s.startRepair.pending = s.pending := by
  unfold State.startRepair
  repeat' split
  all_goals simp

@[simp] theorem State.endSave_keeps_pending (o : SaveOutcome) : (s.endSave o).pending = s.pending :=
  State.startRepair_keeps_pending _

@[simp] theorem State.endLoad_keeps_pending (o : LoadOutcome) (epoch : Word) :
    (s.endLoad o epoch).pending = s.pending :=
  State.startRepair_keeps_pending _

@[simp] theorem State.endRepair_keeps_pending (o : RepairOutcome) : (s.endRepair o).pending = s.pending :=
  State.startRepair_keeps_pending _

@[simp] theorem State.stopSave_keeps_pending (v : SaveState) : (s.stopSave v).pending = s.pending := by
  simp [State.stopSave]

@[simp] theorem State.beginHeaders_keeps_pending : s.beginHeaders.pending = s.pending := by
  rw [State.beginHeaders_eq]
  rfl

@[simp] theorem State.endDrain_keeps_pending : s.endDrain.pending = s.pending := by
  unfold State.endDrain
  repeat' split
  all_goals simp

@[simp] theorem State.startLoad_keeps_pending : s.startLoad.pending = s.pending := State.endDrain_keeps_pending _

@[simp] theorem State.portFreed_keeps_pending : s.portFreed.pending = s.pending :=
  State.issueDeferred_keeps_pending _

theorem State.finishingDone_keeps_pending : s.finishingDone.pending = s.pending := by
  unfold State.finishingDone
  split <;> simp

/-! #### A save -/

/-- A page write's completion touches the port and the store alone (R142). -/
theorem State.writeDone_keeps_pending {s t : State} (h : s.writeDone = some t) : t.pending = s.pending := by
  unfold State.writeDone at h
  split at h
  case h_1 => cases h; rfl
  case h_2 => cases h

theorem State.saveHeaderRead_keeps_pending : s.saveHeaderRead.pending = s.pending := by
  unfold State.saveHeaderRead
  repeat' split
  all_goals simp

@[simp] theorem State.assemble_keeps_pending (g : Target) (v : SaveState) : (s.assemble g v).pending = s.pending := by
  unfold State.assemble
  split
  case h_1 c found _ => cases found <;> simp
  case h_2 => split <;> simp [State.beginHeader]

theorem State.invalidateDone_keeps_pending : s.invalidateDone.pending = s.pending := by
  unfold State.invalidateDone
  split
  case h_1 v u _ hw => split <;> simp [State.writeDone_keeps_pending hw]
  case h_2 => rfl

theorem State.bodyDone_keeps_pending : s.bodyDone.pending = s.pending := by
  unfold State.bodyDone
  split
  case h_1 v u _ hw => split <;> simp [State.writeDone_keeps_pending hw]
  case h_2 => rfl

theorem State.headerDone_keeps_pending : s.headerDone.pending = s.pending := by
  unfold State.headerDone
  split
  case h_1 v u _ hw => split <;> simp [State.writeDone_keeps_pending hw]
  case h_2 => rfl

theorem State.markerDone_keeps_pending : s.markerDone.pending = s.pending := by
  unfold State.markerDone
  split
  case h_1 v u _ hw => split <;> simp [State.writeDone_keeps_pending hw]
  case h_2 => rfl

/-! #### A load -/

@[simp] theorem State.walkOn_keeps_pending (area : Area) (h : Header) (cs : List Channel) (x m n : Nat) :
    (s.walkOn area h cs x m n).pending = s.pending := by
  cases cs <;> simp [State.walkOn]

@[simp] theorem State.loadHeader_keeps_pending (l : LoadState) (found : Option Header) :
    (s.loadHeader l found).pending = s.pending := by
  unfold State.loadHeader State.chooseImage
  repeat' split
  all_goals simp

theorem State.loadHeaderRead_keeps_pending : s.loadHeaderRead.pending = s.pending := by
  unfold State.loadHeaderRead
  repeat' split
  all_goals simp

@[simp] theorem State.untrusted_keeps_pending (l : LoadState) (w : Walk) : (s.untrusted l w).pending = s.pending := by
  simp [State.untrusted]

@[simp] theorem State.loadTail_keeps_pending (l : LoadState) (w : Walk) (head tail : List Byte) :
    (s.loadTail l w head tail).pending = s.pending := by
  unfold State.loadTail
  simp only
  repeat' split
  all_goals simp

@[simp] theorem State.loadHead_keeps_pending (l : LoadState) (w : Walk) (head : List Byte) :
    (s.loadHead l w head).pending = s.pending := by
  unfold State.loadHead
  simp only
  repeat' split
  all_goals simp

theorem State.loadHeadRead_keeps_pending : s.loadHeadRead.pending = s.pending := by
  unfold State.loadHeadRead
  repeat' split
  all_goals simp

theorem State.loadTailRead_keeps_pending : s.loadTailRead.pending = s.pending := by
  unfold State.loadTailRead
  repeat' split
  all_goals simp

@[simp] theorem State.loadSilent_keeps_pending (l : LoadState) : (s.loadSilent l).pending = s.pending := by
  unfold State.loadSilent
  split <;> simp

/-! #### A repair -/

@[simp] theorem State.repairOn_keeps_pending (r : RepairState) (area : Area) (h : Header) (cs : List Channel)
    (x : Nat) : (s.repairOn r area h cs x).pending = s.pending := by
  cases cs <;> simp [State.repairOn]

@[simp] theorem State.repairHeader_keeps_pending (r : RepairState) (found : Option Header) :
    (s.repairHeader r found).pending = s.pending := by
  unfold State.repairHeader State.repairChoose
  repeat' split
  all_goals simp

theorem State.repairHeaderRead_keeps_pending : s.repairHeaderRead.pending = s.pending := by
  unfold State.repairHeaderRead
  repeat' split
  all_goals simp

@[simp] theorem State.repairTail_keeps_pending (r : RepairState) (w : Walk) (head tail : List Byte) :
    (s.repairTail r w head tail).pending = s.pending := by
  unfold State.repairTail
  simp only
  repeat' split
  all_goals simp

@[simp] theorem State.repairHead_keeps_pending (r : RepairState) (w : Walk) (head : List Byte) :
    (s.repairHead r w head).pending = s.pending := by
  unfold State.repairHead
  simp only
  repeat' split
  all_goals simp

theorem State.repairHeadRead_keeps_pending : s.repairHeadRead.pending = s.pending := by
  unfold State.repairHeadRead
  repeat' split
  all_goals simp

theorem State.repairTailRead_keeps_pending : s.repairTailRead.pending = s.pending := by
  unfold State.repairTailRead
  repeat' split
  all_goals simp

@[simp] theorem State.repairSilent_keeps_pending (r : RepairState) : (s.repairSilent r).pending = s.pending := by
  unfold State.repairSilent
  split <;> simp

/-! #### The tick -/

@[simp] theorem State.leaseTick_keeps_pending : s.leaseTick.pending = s.pending := by
  unfold State.leaseTick
  repeat' split
  all_goals simp

@[simp] theorem State.timeTick_keeps_pending : s.timeTick.pending = s.pending := by
  unfold State.timeTick
  split
  case isTrue => exact State.leaseTick_keeps_pending _
  case isFalse => rfl

@[simp] theorem State.afterSilence_keeps_pending (p : Transfer) (took : Bool) :
    (s.afterSilence p took).pending = s.pending := by
  unfold State.afterSilence
  split <;> rfl

@[simp] theorem State.portTick_keeps_pending (took : Bool) : (s.portTick took).pending = s.pending := by
  unfold State.portTick State.silence
  simp only
  repeat' split
  all_goals simp [State.saveSilent]

@[simp] theorem State.scrubTick_keeps_pending : s.scrubTick.pending = s.pending := by
  unfold State.scrubTick State.scrubCheck
  simp only
  repeat' split
  all_goals simp

variable {s}

/-- An event that is not taken in reset leaves the queue alone where it does so out of reset (log entry 12). -/
theorem State.awake_keeps_pending {f : State → State} (h : (f s).pending = s.pending) :
    (s.awake f).pending = s.pending := by
  unfold State.awake
  split
  case isTrue => rfl
  case isFalse => exact h

variable (s)

@[simp] theorem State.tick_keeps_pending (took : Bool) : (s.tick took).pending = s.pending :=
  State.awake_keeps_pending (by simp)

/-! #### Grants and completions -/

@[simp] theorem State.begin_keeps_pending (k : CtxIdx) (l : Lookup) : (s.begin k l).pending = s.pending := by
  rw [State.begin_eq]
  rfl

@[simp] theorem State.finish_keeps_pending (k : CtxIdx) (l : Lookup) : (s.finish k l).pending = s.pending := by
  rw [State.finish_eq, State.endDrain_keeps_pending, State.endLookup_eq]
  rfl

theorem State.laneGrant_keeps_pending : s.laneGrant.pending = s.pending := by
  unfold State.laneGrant State.grantLane
  repeat' split
  all_goals simp

theorem State.probeGrant_keeps_pending : s.probeGrant.pending = s.pending := by
  unfold State.probeGrant State.grantProbe
  repeat' split
  all_goals simp [State.beginProbe]

theorem State.laneCompletion_keeps_pending (k : CtxIdx) : (s.laneCompletion k).pending = s.pending := by
  unfold State.laneCompletion
  repeat' split
  case h_1 l _ _ n _ =>
    obtain ⟨r, htold⟩ := s.laneTold_frame l n
    rw [State.completeLane_eq, htold, State.finish_keeps_pending]
    rfl
  all_goals rfl

theorem State.probeCompletion_keeps_pending (k : CtxIdx) : (s.probeCompletion k).pending = s.pending := by
  unfold State.probeCompletion
  repeat' split
  case h_1 l _ _ _ =>
    obtain ⟨q, r, htold⟩ := s.probeTold_frame l
    show ((s.probeTold l).finish k l).pending = s.pending
    rw [htold, State.finish_keeps_pending]
  all_goals rfl

/-! #### The resets, Restart and the frames that run no command -/

theorem State.bootLoad_keeps_pending (csLow : Bool) : (s.bootLoad csLow).pending = s.pending := by
  unfold State.bootLoad
  split <;> simp

theorem State.restart_keeps_pending : s.restart.pending = s.pending := by
  have hblocks : s.restartBlocks.pending = s.pending := s.emptyEdits_keeps_pending
  unfold State.restart State.restartStore
  repeat' split
  all_goals simp [hblocks]

theorem State.takeFrameError_keeps_pending (code : Option Byte) (e : FrameError) :
    (s.takeFrameError code e).pending = s.pending := by
  unfold State.takeFrameError
  repeat' split
  all_goals rfl

variable {s}

/-- A frame leaves the queue alone where its command does (R191). -/
theorem State.takeFrame_keeps_pending {k : CommandCode} {run : State → Answer}
    (h : ∀ t, (run t).state.pending = t.pending) : (s.takeFrame k run).pending = s.pending := by
  unfold State.takeFrame
  repeat' split
  case isFalse.isFalse => exact h s.count
  all_goals rfl

variable (s)

theorem State.takeBadLength_keeps_pending (k : CommandCode) : (s.takeBadLength k).pending = s.pending := by
  have answer (t : State) :
      (if loadingFirst k && t.isLoading then Answer.refuse t .loading else .refuse t .badParam).state.pending =
        t.pending := by
    split <;> rfl
  unfold State.takeBadLength
  simp only
  split
  case isTrue => exact answer s.dropProbe.count
  case isFalse => exact State.takeFrame_keeps_pending answer

end

/-! ### No command touches the queue -/

section
variable {s : State}

/-- A command that LOADING may refuse leaves the queue alone where its own checks do (R50). -/
theorem unlessLoading_keeps_pending {run : State → Answer} (h : (run s).state.pending = s.pending) :
    (unlessLoading run s).state.pending = s.pending := by
  unfold unlessLoading
  split
  case isTrue => rfl
  case isFalse => exact h

/-- So does a content command (R56). -/
theorem onStaged_keeps_pending {c : Channel} {run : State → SlotIdx → Answer}
    (h : ∀ i, (run s i).state.pending = s.pending) : (onStaged c run s).state.pending = s.pending := by
  refine unlessLoading_keeps_pending ?_
  repeat' split
  case h_2 => exact h _
  all_goals rfl

variable (s)

theorem State.openEntry_keeps_pending (c : Channel) (kind : EditKind) (taken : Option (SlotIdx × Content)) :
    (s.openEntry c kind taken).state.pending = s.pending := by
  cases taken <;> rfl

/-- Open Edit takes a slot, or marks the source of a copy that fails its check (R54, R55). -/
theorem openEdit_keeps_pending (c : Channel) (kind : Byte) : (openEdit c kind s).state.pending = s.pending := by
  refine unlessLoading_keeps_pending ?_
  unfold State.openStaged
  simp only
  repeat' split
  all_goals simp [Answer.refuse, State.openEntry_keeps_pending]

theorem putPoints_keeps_pending (c : Channel) (start : Byte) (points : List Point) :
    (putPoints c start points s).state.pending = s.pending := by
  refine onStaged_keeps_pending fun i => ?_
  simp only
  repeat' split
  all_goals rfl

theorem dropEdit_keeps_pending (c : Channel) : (dropEdit c s).state.pending = s.pending := by
  refine unlessLoading_keeps_pending ?_
  split
  case h_1 => rfl
  case h_2 e _ =>
    simp only
    split <;> exact s.discard_keeps_pending e

theorem abandon_keeps_pending : (abandon s).state.pending = s.pending := by
  refine unlessLoading_keeps_pending ?_
  split
  case isTrue => rfl
  case isFalse => exact s.emptyEdits_keeps_pending

theorem commit_keeps_pending : (commit s).state.pending = s.pending := by
  refine unlessLoading_keeps_pending ?_
  repeat' split
  case h_2 => exact s.applyAll_keeps_pending s.edits
  all_goals rfl

theorem probe_keeps_pending (c : Channel) (raw : Half) (which : Byte) :
    (probe c raw which s).state.pending = s.pending := by
  refine unlessLoading_keeps_pending ?_
  repeat' split
  all_goals rfl

theorem readPoints_keeps_pending (c : Channel) (which start count : Byte) :
    (readPoints c which start count s).state.pending = s.pending := by
  unfold readPoints
  simp only
  repeat' split
  all_goals rfl

theorem saveCommand_keeps_pending : (saveCommand s).state.pending = s.pending := by
  unfold saveCommand
  repeat' split
  all_goals simp [Answer.refuse, State.startSave]

theorem stopSaveCommand_keeps_pending : (stopSaveCommand s).state.pending = s.pending := by
  unfold stopSaveCommand
  split
  case h_1 v _ => exact s.stopSave_keeps_pending v
  case h_2 => rfl

theorem reload_keeps_pending : (reload s).state.pending = s.pending := by
  unfold reload
  repeat' split
  case isFalse.isFalse => exact s.startLoad_keeps_pending
  all_goals rfl

theorem setControl_keeps_pending (selection : Half) (v : ControlBytes) :
    (setControl selection v s).state.pending = s.pending := by
  unfold setControl
  split
  case isTrue => rfl
  case isFalse => exact State.startRepair_keeps_pending _

end

/-! ### Every row completes (log entry 6) -/

/-- An outcome is a next state with the queue of a state. -/
def Completes (s : State) (o : Host.Outcome State Fault Refusal) : Prop := ∃ t, o = .next t ∧ t.pending = s.pending

section
variable {s t : State}

/-- A next state that has the queue completes. -/
theorem Completes.next (h : t.pending = s.pending) : Completes s (.next t) := ⟨t, rfl, h⟩

/-- What completes from a state completes from each state with its queue. -/
theorem Completes.of_pending {o : Host.Outcome State Fault Refusal} (h : Completes t o) (e : t.pending = s.pending) :
    Completes s o := by
  obtain ⟨u, ho, hu⟩ := h
  exact ⟨u, ho, hu.trans e⟩

/-- A command's frame completes where the command leaves the queue alone (R191). -/
theorem Completes.frame {k : CommandCode} {run : State → Answer} (h : ∀ t, (run t).state.pending = t.pending) :
    Completes s (.next (s.takeFrame k run)) :=
  .next (State.takeFrame_keeps_pending h)

/-- An event that is not taken in reset completes where it leaves the queue alone out of reset (log entry 12). -/
theorem Completes.awake {f : State → State} (h : (f s).pending = s.pending) : Completes s (.next (s.awake f)) :=
  .next (State.awake_keeps_pending h)

/-- A row that happens on a condition, and else keeps the state, completes (log entry 6). -/
theorem Completes.ite {b : Prop} [Decidable b] (h : t.pending = s.pending) :
    Completes s (.next (if b then t else s)) := by
  split
  case isTrue => exact .next h
  case isFalse => exact .next rfl

variable (s)

/-- Every command completes (R191). -/
theorem runCommand_completes (i : Instr) : Completes s (runCommand i s) := by
  cases i
  case openEdit c kind => exact .frame fun t => openEdit_keeps_pending t c kind
  case setFields c f => exact .frame fun t => onStaged_keeps_pending fun i => by split <;> rfl
  case setLabel c label => exact .frame fun t => onStaged_keeps_pending fun i => by split <;> rfl
  case putPoints c start points => exact .frame fun t => putPoints_keeps_pending t c start points
  case trimPoints c count => exact .frame fun t => onStaged_keeps_pending fun i => by simp only; split <;> rfl
  case dropEdit c => exact .frame fun t => dropEdit_keeps_pending t c
  case abandon => exact .frame abandon_keeps_pending
  case commit => exact .frame commit_keeps_pending
  case readEditSet start => exact .frame fun t => by unfold readEditSet; split <;> rfl
  case probe c raw which => exact .frame fun t => probe_keeps_pending t c raw which
  case readRecord c which => exact .frame fun t => by unfold readRecord; split <;> rfl
  case readPoints c which start count => exact .frame fun t => readPoints_keeps_pending t c which start count
  case clearReasons c selection => exact .frame fun t => by unfold clearReasons; split <;> rfl
  case clearCauses selection => exact .frame fun t => by unfold clearCauses; split <;> rfl
  case save => exact .frame saveCommand_keeps_pending
  case stopSave => exact .frame stopSaveCommand_keeps_pending
  case reload => exact .frame reload_keeps_pending
  case setControl selection v => exact .frame fun t => setControl_keeps_pending t selection v
  case readMapEntry | setTime | readAttention | readControl | readStatus | readIdentity => exact .frame fun _ => rfl
  case restart => exact .ite s.restart_keeps_pending
  all_goals exact .next rfl

/-- A command write completes, whatever its bytes (R189 to R191). -/
theorem commandWrite_completes (bytes : List Byte) : Completes s (s.commandWrite bytes) := by
  unfold State.commandWrite
  simp only
  split
  case h_1 code e _ => exact .next (State.takeFrameError_keeps_pending _ code e)
  case h_2 k payload _ =>
    split
    case h_1 => exact .next (State.takeBadLength_keeps_pending _ k)
    case h_2 i _ => exact (runCommand_completes _ i).of_pending rfl

/-- Every row of the table completes. -/
theorem exec_completes (i : Instr) : Completes s (exec i s) := by
  have command (hc : runCommand i s = exec i s) : Completes s (exec i s) := hc ▸ runCommand_completes s i
  cases i
  case powerOnReset | pinReset => exact .next rfl
  case bootLoad csLow => exact .next (s.bootLoad_keeps_pending csLow)
  case commandWrite bytes =>
    show Completes s (if s.portOpen then s.commandWrite bytes else .next s)
    split
    case isTrue => exact commandWrite_completes s bytes
    case isFalse => exact .next rfl
  case frameError code e => exact .next (s.takeFrameError_keeps_pending code e)
  case responseRead | ignoredTransaction | requestArrival => exact .ite rfl
  case resultTake => exact .next rfl
  case laneGrant => exact .awake s.laneGrant_keeps_pending
  case probeGrant => exact .awake s.probeGrant_keeps_pending
  case laneCompletion k => exact .awake (s.laneCompletion_keeps_pending k)
  case probeCompletion k => exact .awake (s.probeCompletion_keeps_pending k)
  case millisecondTick took => exact .next (s.tick_keeps_pending took)
  case secondsTick took | leaseLapse took | stepExpiry took | saveStoreSilence took | finishingWriteSilence took =>
    exact .ite (s.tick_keeps_pending took)
  case loadHeaderSilence | loadWalkSilence | repairStoreSilence => exact .ite (s.tick_keeps_pending false)
  case upset i content => exact .next (s.upset_keeps_pending i content)
  case saveHeaderReadCompletion => exact .awake s.saveHeaderRead_keeps_pending
  case invalidateWriteCompletion => exact .awake s.invalidateDone_keeps_pending
  case bodyWriteCompletion => exact .awake s.bodyDone_keeps_pending
  case headerWriteCompletion => exact .awake s.headerDone_keeps_pending
  case markerWriteCompletion => exact .awake s.markerDone_keeps_pending
  case finishingWriteCompletion => exact .awake s.finishingDone_keeps_pending
  case deferredTransferIssue => exact .awake s.issueDeferred_keeps_pending
  case tableClear => exact .awake s.endDrain_keeps_pending
  case loadHeaderReadCompletion => exact .awake s.loadHeaderRead_keeps_pending
  case loadHeadReadCompletion => exact .awake s.loadHeadRead_keeps_pending
  case loadTailReadCompletion => exact .awake s.loadTailRead_keeps_pending
  case repairStart => exact .awake s.startRepair_keeps_pending
  case repairHeaderReadCompletion => exact .awake s.repairHeaderRead_keeps_pending
  case repairHeadReadCompletion => exact .awake s.repairHeadRead_keeps_pending
  case repairTailReadCompletion => exact .awake s.repairTailRead_keeps_pending
  case chipSelectRiseAfterReset => exact .awake (f := State.chipSelectRise) rfl
  all_goals exact command rfl

end

/-- Settles O2: each row is a command of the port, an event taken out of reset, a tick, a transaction or a reset, and
none of their operations writes the queue. -/
theorem everyCommandCompletes : Obligations.EveryCommandCompletes := fun c s => exec_completes s c

end Sys2Proof.Machine
